-- ==== Sys2Proof/Word.lean ====
section
/-! DEFINITION. The word type: a byte, the width of a status register and of every transported datum
(00_scope R9 `DATA_W`, R11). -/

namespace Sys2Proof

/-- An 8-bit unsigned value, bit 7 the most significant (R11). -/
abbrev Byte := BitVec 8

end Sys2Proof
end

