-- ==== Sys2Proof/Config.lean ====
section
/-! DEFINITION. Handles and counts (00_scope R9), the moves of the block's environment (R8, R18), and the
one free value: the environment's moves that nothing has fixed. -/

namespace Sys2Proof

/-- A transport handle, a number below 2^HANDLE_W, never interpreted by the block (R34). HANDLE_W is an
argument of the model (R9): `Params.handleW`; what enters the block is cut to it. Log entry 4.
PCNT and POLL_BOUND are plain numbers in the same way, cut to POLL_W, `Params.pollW` (R38, R44; log entry 5). -/
abbrev Handle := Nat

/-- Which operation is in progress: the values of OP (R33). -/
inductive Op where
  | enterQuad
  | exitQuad
deriving DecidableEq, Repr, Inhabited

/-- The two outcomes of an answered exchange (20_memory R73). -/
inductive Answer where
  | ok
  | fail
deriving DecidableEq, Repr, Inhabited

/-- Everything the environment draws for one exchange (00_scope R18).
`answer`: Ok or Fail (R73).
`byte`: what a read brings where no rule fixes it: from a link that is not the modelled device's (R74),
bits 7 to 1 of a busy Status1 (R222), a busy Status2 (R223).
`wel`: WEL after a read that came while WEL = 1 (R228), or after a Write Status that was not accepted (R236).
`arrived`: whether a failed Write Enable or Write Status reached the device (R236). -/
structure Draws where
  answer  : Answer
  byte    : Byte
  wel     : Bool
  arrived : Bool
deriving DecidableEq, Repr, Inhabited

/-- What a reset leaves in the registers it makes unspecified (70_reset_and_hazards R300). -/
structure Leftover where
  op   : Op
  h    : Handle
  s1   : Byte
  s2   : Byte
  pcnt : Nat
deriving DecidableEq, Repr, Inhabited

/-- One move of the environment. Each step of the machine consumes exactly one.
`start`: the host presents `start` with `op` and `handle` (43_bus_attachment R200, R201, R203).
`reset`: the host presents `reset` (R300); the draws matter only when an exchange is outstanding (R302).
`setBound`: the integrator or host supplies POLL_BOUND, before the first operation (R209, R44).
`transport`: the transport answers the block's exchange (R73); no effect when the block issues none.
`silence`: the transport answers nothing at this step (R76, R321).
`commit`: the device ends its write cycle (44_device_model R232); no effect when it has none.
`other`: another user of the transport performs a whole exchange (U6, R207). -/
inductive Event where
  | start (op : BitVec 1) (handle : Handle)
  | reset (left : Leftover) (draws : Draws)
  | setBound (bound : Nat)
  | transport (draws : Draws)
  | silence
  | commit
  | other (handle : Handle) (tx : List Byte) (k : Nat) (draws : Draws)
deriving DecidableEq, Repr, Inhabited

/-- THE FREE VALUE: the environment's move at a step for which the state fixes none. Nothing constrains
it, so a claim about a step holds for every start, reset, outcome, byte and commit moment (R18). Log entry 2. -/
opaque Config.environment : Nat → Event

end Sys2Proof
end

