-- ==== Sys2Proof/Syntax.lean ====
section
/-! DEFINITION. The instructions (30_encoding R102, R107), the forms in which they are presented at the
block's two ports, and the reasons a presented form is no instruction. -/

namespace Sys2Proof

/-- One constructor per row of spec/opcode_table.json: the four wire commands (R102) and the two host
operations (R107). A data byte has its width in its type; a handle's width is an argument of the model
(R9), and `Instr.wellFormed` checks it. -/
inductive Instr where
  /-- RDSR1, Read Status1, 0x05 (R222). -/
  | rdsr1
  /-- RDSR2, Read Status2, 0x35 (R223). -/
  | rdsr2
  /-- WREN, Write Enable, 0x06 (R224). -/
  | wren
  /-- WRSR, Write Status, 0x01, with its two data bytes (R225). -/
  | wrsr (status1 status2 : Byte)
  /-- ENTER_QUAD, `op = 0`, with the handle of the separate port (R155). -/
  | enterQuad (handle : Handle)
  /-- EXIT_QUAD, `op = 1`, with the handle of the separate port (R156). -/
  | exitQuad (handle : Handle)
deriving DecidableEq, Repr

/-- How an instruction is presented: on the host port as the select bit and the handle (format HOSTOP,
R106), or on the transport port as the bytes sent and the number received (R100). -/
inductive Code where
  | hostop (op : BitVec 1) (handle : Handle)
  | xchg (tx : List Byte) (k : Nat)
deriving DecidableEq, Repr

/-- Why a presented form is not an instruction of this spec (R113, R229). -/
inductive Reject where
  /-- Nothing is sent. -/
  | noBytes
  /-- The opcode is none of 0x01, 0x05, 0x06, 0x35 (R110). -/
  | unknownOpcode (opcode : Byte)
  /-- A defined opcode with another length or another number of received bytes (R113). -/
  | wrongShape (opcode : Byte) (sent received : Nat)
deriving DecidableEq, Repr

end Sys2Proof
end

