-- ==== Sys2Proof/WellFormed.lean ====
section
/-! DEFINITION. Well-formedness: the shapes an exchange may have (20_memory R72, 30_encoding R100),
the handles a host port of HANDLE_W bits carries (00_scope R9, 30_encoding R106), and the write masks a device may
have (R9, 44_device_model R230). -/

namespace Sys2Proof

/-- The three exchange shapes the block uses: (1, 1), (1, 0) and (3, 0) (R72, R100). -/
def legalShape (sent received : Nat) : Bool :=
  (sent == 1 && received == 1) || (sent == 1 && received == 0) || (sent == 3 && received == 0)

/-- A presented form with a legal shape; both values of the host's select bit are defined (R111). -/
def Code.wellFormed : Code → Bool
  | .hostop _ _ => true
  | .xchg tx k => legalShape tx.length k

/-- The instruction's operands fit a block of that HANDLE_W (R9, R106). -/
def Instr.wellFormed (handleW : Nat) : Instr → Bool
  | .rdsr1 => true
  | .rdsr2 => true
  | .wren => true
  | .wrsr _ _ => true
  | .enterQuad handle => decide (handle < 2 ^ handleW)
  | .exitQuad handle => decide (handle < 2 ^ handleW)

/-- DEV_WMASK1 leaves BusyBit alone, DEV_WMASK2 lets QuadEnableBit be written (R9, R230). -/
def legalMasks (wmask1 wmask2 : Byte) : Bool :=
  !wmask1.getLsbD 0 && wmask2.getLsbD 1

end Sys2Proof
end

