-- ==== Sys2Proof/Decode.lean ====
section
/-! DEFINITION. The decoder of both ports (30_encoding R102, R107, R113), total on any bytes and
rejecting by name; the encoder from the same tables; the opcode table's match and mask; and the layout of
a table word. -/

namespace Sys2Proof

/-- Opcodes of the four wire commands (R102). -/
def Opcode.rdsr1 : Byte := 0x05
/-- Read Status2 (R102). -/
def Opcode.rdsr2 : Byte := 0x35
/-- Write Enable (R102). -/
def Opcode.wren : Byte := 0x06
/-- Write Status (R102). -/
def Opcode.wrsr : Byte := 0x01

/-- The device-side decoder: byte 0 selects the command, which fixes both lengths (R113). -/
def decodeWire (tx : List Byte) (k : Nat) : Except Reject Instr :=
  match tx with
  | [] => .error .noBytes
  | opcode :: data =>
    if opcode = Opcode.rdsr1 then
      match data, k with
      | [], 1 => .ok .rdsr1
      | _, _ => .error (.wrongShape opcode tx.length k)
    else if opcode = Opcode.rdsr2 then
      match data, k with
      | [], 1 => .ok .rdsr2
      | _, _ => .error (.wrongShape opcode tx.length k)
    else if opcode = Opcode.wren then
      match data, k with
      | [], 0 => .ok .wren
      | _, _ => .error (.wrongShape opcode tx.length k)
    else if opcode = Opcode.wrsr then
      match data, k with
      | [status1, status2], 0 => .ok (.wrsr status1 status2)
      | _, _ => .error (.wrongShape opcode tx.length k)
    else .error (.unknownOpcode opcode)

/-- The host port: `op = 0` is ENTER_QUAD, `op = 1` is EXIT_QUAD (R106, R107). -/
def decodeHost (op : BitVec 1) (handle : Handle) : Instr :=
  if op = 0 then .enterQuad handle else .exitQuad handle

/-- What a presented form stands for. -/
def decode : Code → Except Reject Instr
  | .hostop op handle => .ok (decodeHost op handle)
  | .xchg tx k => decodeWire tx k

/-- The form of an instruction: R102 for the wire, R107 for the host port. -/
def encode : Instr → Code
  | .rdsr1 => .xchg [Opcode.rdsr1] 1
  | .rdsr2 => .xchg [Opcode.rdsr2] 1
  | .wren => .xchg [Opcode.wren] 0
  | .wrsr status1 status2 => .xchg [Opcode.wrsr, status1, status2] 0
  | .enterQuad handle => .hostop 0 handle
  | .exitQuad handle => .hostop 1 handle

/-- How many bytes an exchange with this opcode receives: X1R1 one, the others none (R100). -/
def receivedBytes (opcode : Byte) : Nat :=
  if opcode = Opcode.rdsr1 ∨ opcode = Opcode.rdsr2 then 1 else 0

/-- The bytes of a table word, byte 0 first. The table writes byte 0 in the HIGHEST bits: "bits 23:16 are
the opcode, bits 15:8 are status1 ... and bits 7:0 are status2" (R101). Log entry 18. -/
def tableBytes : Nat → Nat → List Byte
  | 0, _ => []
  | n + 1, w => BitVec.ofNat 8 (w / 256 ^ n) :: tableBytes n w

/-- The form a table word of `nbits` bits is presented in. A word of at most 8 bits with value 0 or 1 is a
HOSTOP word with the handle's bits zero: no one-byte exchange of this spec starts with 0x00 or 0x01. Any
other word is an exchange. Log entry 18. -/
def tableCode (nbits w : Nat) : Code :=
  if nbits ≤ 8 ∧ w < 2 then .hostop (BitVec.ofNat 1 w) 0
  else
    let tx := tableBytes ((nbits + 7) / 8) w
    .xchg tx (receivedBytes (tx.headD 0))

/-- The instruction the decoder reads from a table word. -/
def decodeTableWord (nbits w : Nat) : Option Instr :=
  match decode (tableCode nbits w) with
  | .ok i => some i
  | .error _ => none

/-- A row of the opcode table: its mnemonic, its width in bits, its match and its mask. -/
structure TableRow where
  mnemonic : String
  width : Nat
  pattern : Nat
  mask : Nat
deriving DecidableEq, Repr

/-- The wire rows as match and mask over the bit string (R113). -/
def wireRows : List TableRow :=
  [⟨"RDSR1", 8, 0x05, 0xFF⟩, ⟨"RDSR2", 8, 0x35, 0xFF⟩, ⟨"WREN", 8, 0x06, 0xFF⟩,
   ⟨"WRSR", 24, 0x010000, 0xFF0000⟩]

/-- The mnemonic of an instruction in spec/opcode_table.json. -/
def Instr.mnemonic : Instr → String
  | .rdsr1 => "RDSR1"
  | .rdsr2 => "RDSR2"
  | .wren => "WREN"
  | .wrsr _ _ => "WRSR"
  | .enterQuad _ => "ENTER_QUAD"
  | .exitQuad _ => "EXIT_QUAD"

/-- A word of `r`'s width is a word of row `r` (R113). -/
def TableRow.accepts (r : TableRow) (w : Nat) : Bool := w &&& r.mask == r.pattern

end Sys2Proof
end

