-- ==== Sys2Proof/Machine/State.lean ====
section
/-! DEFINITION. The state of the machine: the block's eight registers (10_state R30), the device
(44_device_model R221), the configuration, the transport port, the trace and the environment's moves;
the reasons a step stops; and the state right after reset (10_state R55, 70_reset_and_hazards R301). -/

namespace Sys2Proof.Machine

/-- ST, the FSM state register, "the role of a program counter" (R31). -/
inductive St where
  | idle | rd1 | rd2 | wren | wrsr | poll
deriving DecidableEq, Repr

/-- RES, the result of the most recent operation (R40). -/
inductive Res where
  | none | ok | transportError | deviceNotReady
deriving DecidableEq, Repr

/-- MODE, the wire mode the block last left the device in (R42). -/
inductive Mode where
  | unknown | single | quad
deriving DecidableEq, Repr

/-- Whose exchange is on the transport: the block's, or another user's (20_memory R85, U6). -/
inductive Master where
  | block | other
deriving DecidableEq, Repr

/-- The device's registers (R221): stored Status1 and Status2, the write-enable latch, write in progress,
and the pending pair PEND = (p1, p2), meaningful only while `wip`. -/
structure Device where
  n1  : Byte
  n2  : Byte
  wel : Bool
  wip : Bool
  p1  : Byte
  p2  : Byte
deriving DecidableEq, Repr

/-- The arguments of the model (00_scope R9), which no step of a run changes once an operation has begun:
HANDLE_W, POLL_W, POLL_BOUND (R44), the device's write masks (R230), and the handle that names the link of the
modelled device (R305; log entry 4). -/
structure Params where
  handleW   : Nat
  pollW     : Nat
  pollBound : Nat
  wmask1    : Byte
  wmask2    : Byte
  link      : Handle
deriving DecidableEq, Repr

/-- The transport port (R200): whose exchange is on it, the handle it carries, the environment's draws. -/
structure Bus where
  master : Master
  handle : Handle
  draws  : Draws
deriving DecidableEq, Repr

/-- What came of an exchange: Ok with the received bytes or Fail (R73), or abandoned, unanswered, by a
reset (R300). -/
inductive Reply where
  | ok (rx : List Byte)
  | fail
  | abandoned
deriving DecidableEq, Repr

/-- One entry of the trace (00_scope R15, R19). -/
structure Exchange where
  master : Master
  handle : Handle
  tx     : List Byte
  k      : Nat
  reply  : Reply
deriving DecidableEq, Repr

/-- The whole state. The first eight fields are the block (R30). -/
structure State where
  /-- ST (R31) -/
  st : St
  /-- OP (R33) -/
  op : Op
  /-- H (R34) -/
  h : Handle
  /-- S1 (R35) -/
  s1 : Byte
  /-- S2 (R36) -/
  s2 : Byte
  /-- PCNT (R38) -/
  pcnt : Nat
  /-- RES (R40) -/
  res : Res
  /-- MODE (R42) -/
  mode : Mode
  /-- the device (R221) -/
  dev : Device
  /-- the configuration (R9, R44, R230) -/
  par : Params
  /-- an operation has been started in this run: POLL_BOUND is supplied before that (R209; log entry 6) -/
  begun : Bool
  /-- the transport port (R200) -/
  bus : Bus
  /-- the block's exchange is issued and unanswered (R76, R80) -/
  outstanding : Bool
  /-- answered or abandoned exchanges, newest first (R19; log entry 17) -/
  trace : List Exchange
  /-- the environment's moves that are already fixed, next one first (log entry 1) -/
  schedule : List Event
  /-- the step count, which makes every free move a fresh one (log entry 2) -/
  clock : Nat
deriving DecidableEq, Repr

/-- Stuck states. -/
inductive Fault where
  /-- Raised by a wire command's meaning when the exchange on the port is marked as the block's though ST
  does not emit that command. No step reaches it: "The block never emits any other byte sequence" (R109).
  Safe. Log entry 15. -/
  | notEmitted
deriving DecidableEq, Repr

/-- Moves the spec gives no meaning. -/
inductive Refusal where
  /-- Raised by `exec` alone, for an instruction without a meaning; no arm does. Safe. -/
  | notModelled (mnemonic : String)
  /-- Raised by WREN and WRSR, and by a reset that abandons one, when the command reaches the device while
  WIP = 1: "a model in Lean should refuse the run" (R243, U9). Safe. Log entry 14. -/
  | deviceBusy
  /-- Raised by the fetch when the bytes of an exchange are none of the four commands (R229, U11). Safe. -/
  | notACommand (why : Reject)
  /-- Raised when POLL_BOUND is changed while ACTIVE = 1 or once an operation has begun: it is a constant of
  the run (R44, R320, U17). Safe. Log entry 6. -/
  | pollBoundFixed
deriving DecidableEq, Repr

/-- The machine right after reset. ST, RES and MODE are R55's; the widths and the write masks are R9's defaults; every
other value is the model's and named in log entries 2, 4, 6, 8, 9 and 17. -/
def State.reset : State where
  st := .idle
  op := .enterQuad
  h := 0
  s1 := 0
  s2 := 0
  pcnt := 0
  res := .none
  mode := .unknown
  dev := { n1 := 0, n2 := 0, wel := false, wip := false, p1 := 0, p2 := 0 }
  par := { handleW := 0, pollW := 32, pollBound := 0, wmask1 := 0xFE, wmask2 := 0xFF, link := 0 }
  begun := false
  bus := { master := .block, handle := 0, draws := { answer := .ok, byte := 0, wel := false, arrived := false } }
  outstanding := false
  trace := []
  schedule := []
  clock := 0

end Sys2Proof.Machine
end

