-- ==== Sys2Proof/Machine/Flags.lean ====
section
/-! DEFINITION. The masks (30_encoding R105), the bit tests, the number codes of ST, OP, RES and MODE
(10_state R32, R33, R40, R42) and the host's outputs (43_bus_attachment R200). -/

namespace Sys2Proof.Machine

/-- Mask of BusyBit in Status1 (R105). -/
def busyMask : Byte := 0x01
/-- Mask of QuadEnableBit in Status2 (R105). -/
def quadMask : Byte := 0x02

/-- BusyBit of a Status1 byte: `b[0]` (R46, R103). -/
def busyBit (b : Byte) : Bool := b.getLsbD 0
/-- QuadEnableBit of a Status2 byte: `b[1]` (R47, R103). -/
def quadBit (b : Byte) : Bool := b.getLsbD 1

/-- R32. -/
def St.code : St → BitVec 3
  | .idle => 0
  | .rd1 => 1
  | .rd2 => 2
  | .wren => 3
  | .wrsr => 4
  | .poll => 5

/-- R33. -/
def opCode : Op → BitVec 1
  | .enterQuad => 0
  | .exitQuad => 1

/-- R40. -/
def Res.code : Res → BitVec 2
  | .none => 0
  | .ok => 1
  | .transportError => 2
  | .deviceNotReady => 3

/-- R42; the code 3 is never produced. -/
def Mode.code : Mode → BitVec 2
  | .unknown => 0
  | .single => 1
  | .quad => 2

/-- ACTIVE, the output `ST != IDLE` (R39). -/
def State.active (s : State) : Bool := decide (s.st ≠ .idle)

/-- What the host sees of the block: ACTIVE, RES, MODE (R200, R202). -/
structure Outputs where
  active : Bool
  res    : BitVec 2
  mode   : BitVec 2
deriving DecidableEq, Repr

/-- The host port's outputs (R200). -/
def State.outputs (s : State) : Outputs := ⟨s.active, s.res.code, s.mode.code⟩

/-- The wire mode a completed operation leaves (R154). -/
def completedMode : Op → Mode
  | .enterQuad => .quad
  | .exitQuad => .single

/-- The bound test of the POLL step at its count `n`: this was the POLL_BOUND-th busy poll (R182). -/
def boundReached (bound n : Nat) : Bool := decide (bound ≠ 0 ∧ n = bound)

end Sys2Proof.Machine
end

