-- ==== Sys2Proof/Machine/Operands.lean ====
section
/-! DEFINITION. Operand forms: what the ports' widths carry (00_scope R9), the status-register locations
(20_memory R70), the assembly of Write Status's data (30_encoding R104), the command each FSM state emits (R109),
and the bytes the device answers (44_device_model R222, R223). -/

namespace Sys2Proof.Machine

/-- What HANDLE_W bits carry of a handle (R9, R34). -/
def Params.handleBits (p : Params) (handle : Handle) : Handle := handle % 2 ^ p.handleW

/-- What POLL_W bits carry of a count; `+` on the counter is modulo 2^POLL_W (R14, R38). -/
def Params.countBits (p : Params) (n : Nat) : Nat := n % 2 ^ p.pollW

/-- n = PCNT + 1, the number of polls done, this one included (R182). -/
def State.pollsDone (s : State) : Nat := s.par.countBits (s.pcnt + 1)

/-- The two locations of the status-register space: names, not numbers (R70, 00_scope R16). -/
inductive Loc where
  | sr1 | sr2
deriving DecidableEq, Repr

/-- The command that reads a location: `MemRead(SR1, 1)` and `MemRead(SR2, 1)` (R16, R70). -/
def Loc.readCommand : Loc → Instr
  | .sr1 => .rdsr1
  | .sr2 => .rdsr2

/-- The stored byte of a location. -/
def Device.stored (d : Device) : Loc → Byte
  | .sr1 => d.n1
  | .sr2 => d.n2

/-- W2, the status2 byte Write Status sends: `S2 | 0x02` to enter, `S2 & 0xFD` to leave quad mode (R104). -/
def w2 (op : Op) (s2 : Byte) : Byte :=
  match op with
  | .enterQuad => s2 ||| quadMask
  | .exitQuad => s2 &&& ~~~quadMask

/-- The command of the block's current state; IDLE emits nothing (R109). -/
def State.emits (s : State) : Option Instr :=
  match s.st with
  | .idle => none
  | .rd1 => some .rdsr1
  | .rd2 => some .rdsr2
  | .wren => some .wren
  | .wrsr => some (.wrsr s.s1 (w2 s.op s.s2))
  | .poll => some .rdsr1

/-- The bytes sent by a presented form. -/
def codeTx : Code → List Byte
  | .hostop _ _ => []
  | .xchg tx _ => tx

/-- The number of bytes received. -/
def codeK : Code → Nat
  | .hostop _ _ => 0
  | .xchg _ k => k

/-- What the device answers to Read Status1: bit 0 is WIP; bits 7 to 1 are the stored ones when idle and a
draw while busy (R222). -/
def Device.status1 (d : Device) (x : Draws) : Byte :=
  if d.wip then x.byte ||| busyMask else d.n1 &&& ~~~busyMask

/-- What the device answers to Read Status2: the stored byte when idle, a draw while busy (R223). -/
def Device.status2 (d : Device) (x : Draws) : Byte :=
  if d.wip then x.byte else d.n2

/-- `written` in the bits of `mask`, `old` in the others (R230, R232). -/
def merge (mask old written : Byte) : Byte :=
  (old &&& ~~~mask) ||| (written &&& mask)

end Sys2Proof.Machine
end

