-- ==== Sys2Proof/Machine/Ops.lean ====
section
/-! DEFINITION. The named operations: abort (60_exceptions R266, the block's "taking an exception") and
start (43_bus_attachment R201, its "return"), the transitions of the FSM on an answered exchange
(41_mode_control R151), the device's side of an exchange (44_device_model R222 to R228, R236), commit
(R232) and reset (70_reset_and_hazards R300, R302). -/

namespace Sys2Proof.Machine

/-- The result of a step or a meaning. -/
abbrev Result := Host.Outcome State Fault Refusal

/-- TAKING A FAILURE: abort with kind `e`, in the step that detects it (R266). -/
def State.abort (s : State) (e : Res) : State :=
  { s with res := e, mode := .unknown, st := .idle }

/-- THE RETURN: the next start, which clears RES and MODE and begins an operation (R201, R276). From the first
one on POLL_BOUND is fixed (R209, R44). -/
def State.begin (s : State) (op : Op) (handle : Handle) : State :=
  { s with op := op, h := s.par.handleBits handle, res := .none, mode := .unknown, st := .rd1, begun := true }

/-- A start presented to the block: taken in IDLE (R201), without effect otherwise (R203). -/
def State.start (s : State) (op : Op) (handle : Handle) : State :=
  if s.st = .idle then s.begin op handle else s

/-- Completion (R154). -/
def State.complete (s : State) : State :=
  { s with res := .ok, mode := completedMode s.op, st := .idle }

/-- READ_STATUS1 in the block: `some b` is Ok([b]), `none` is Fail (R131). -/
def State.onRd1 (s : State) : Option Byte → State
  | some b => { s with s1 := b, st := .rd2 }
  | none => s.abort .transportError

/-- READ_STATUS2 in the block (R132). -/
def State.onRd2 (s : State) : Option Byte → State
  | some b => { s with s2 := b, st := .wren }
  | none => s.abort .transportError

/-- The Write Enable step in the block (R133). -/
def State.onWren (s : State) : Answer → State
  | .ok => { s with st := .wrsr }
  | .fail => s.abort .transportError

/-- The Write Status step in the block (R134). -/
def State.onWrsr (s : State) : Answer → State
  | .ok => { s with pcnt := 0, st := .poll }
  | .fail => s.abort .transportError

/-- The POLL step in the block: Fail first, then bit 0, then the count (R182, R274). -/
def State.onPoll (s : State) : Option Byte → State
  | none => s.abort .transportError
  | some b =>
    if busyBit b = false then s.complete
    else if boundReached s.par.pollBound s.pollsDone then s.abort .deviceNotReady
    else { s with pcnt := s.pollsDone }

/-- The exchange on the port goes to the modelled device's link (R305 (2); log entry 4). -/
def State.attached (s : State) : Bool := decide (s.bus.handle = s.par.link)

/-- The command on the port reached the device: it was answered Ok, or it failed and a draw says that it
arrived all the same (R226, R236). -/
def State.arrives (s : State) : Bool := decide (s.bus.draws.answer = .ok) || s.bus.draws.arrived

/-- A write-type command on the port reaches the device while its write cycle runs (R243; log entry 14). -/
def State.hitsBusy (s : State) : Bool := s.attached && s.dev.wip && s.arrives

/-- WEL after a delivered or failed read: a draw if it was 1 (R228, R236). -/
def Device.afterRead (d : Device) (x : Draws) : Device :=
  if d.wel then { d with wel := x.wel } else d

/-- An accepted Write Status (R225). -/
def Device.accept (d : Device) (a b : Byte) : Device :=
  { d with p1 := a, p2 := b, wip := true, wel := false }

/-- The device's commit, enabled while WIP = 1 (R232). -/
def Device.commit (d : Device) (p : Params) : Device :=
  if d.wip then
    { d with n1 := merge p.wmask1 d.n1 d.p1, n2 := merge p.wmask2 d.n2 d.p2, wip := false }
  else d

/-- The device after the read on the port (R222, R223, R228, R236). -/
def State.devAfterRead (s : State) : Device :=
  if s.attached then s.dev.afterRead s.bus.draws else s.dev

/-- The device after the Write Enable on the port (R224, R236); `hitsBusy` is excluded before. -/
def State.devAfterWren (s : State) : Device :=
  if s.attached && !s.dev.wip && s.arrives then { s.dev with wel := true } else s.dev

/-- The device after the Write Status on the port: accepted when enabled and arrived; ignored when not
enabled (R225, R227); failed and not arrived, it leaves WEL a draw (R236). `hitsBusy` is excluded before. -/
def State.devAfterWrsr (s : State) (a b : Byte) : Device :=
  if s.attached && !s.dev.wip && s.dev.wel then
    if s.arrives then s.dev.accept a b else { s.dev with wel := s.bus.draws.wel }
  else s.dev

/-- The byte a read brings its issuer: the device's answer, or from any other link a draw (R74); nothing
when the exchange fails. -/
def State.received (s : State) (answer : Byte) : Option Byte :=
  match s.bus.draws.answer with
  | .ok => some (if s.attached then answer else s.bus.draws.byte)
  | .fail => none

/-- The trace entry's reply for a read. -/
def readReply : Option Byte → Reply
  | some b => .ok [b]
  | none => .fail

/-- The trace entry's reply for a command that receives nothing. -/
def sendReply : Answer → Reply
  | .ok => .ok []
  | .fail => .fail

/-- The exchange on the port is over: the device is `d`, the trace has its entry, and if it was the
block's nothing is outstanding any more (R19, R80). -/
def State.settle (s : State) (d : Device) (i : Instr) (reply : Reply) : State :=
  { s with
    dev := d
    trace := ⟨s.bus.master, s.bus.handle, codeTx (encode i), codeK (encode i), reply⟩ :: s.trace
    outstanding := s.outstanding && decide (s.bus.master = .other) }

/-- Put an exchange on the transport port. -/
def State.withBus (s : State) (b : Bus) : State := { s with bus := b }

/-- Commit as a step of the machine. -/
def State.commit (s : State) : State := { s with dev := s.dev.commit s.par }

/-- The transport answers nothing: the block, if active, waits with its exchange outstanding (R76, R321). -/
def State.wait (s : State) : State := { s with outstanding := s.active }

/-- POLL_BOUND supplied (R209). -/
def State.setBound (s : State) (n : Nat) : State :=
  { s with par := { s.par with pollBound := s.par.countBits n } }

/-- The block's part of a reset (R300): the unspecified registers take whatever the environment leaves. -/
def State.resetBlock (s : State) (l : Leftover) : State :=
  { s with
    st := .idle, res := .none, mode := .unknown
    op := l.op, h := s.par.handleBits l.h, s1 := l.s1, s2 := l.s2, pcnt := s.par.countBits l.pcnt
    outstanding := false }

/-- The device after an exchange of command `i` on the port. -/
def State.devAfter (s : State) : Instr → Device
  | .rdsr1 => s.devAfterRead
  | .rdsr2 => s.devAfterRead
  | .wren => s.devAfterWren
  | .wrsr a b => s.devAfterWrsr a b
  | .enterQuad _ => s.dev
  | .exitQuad _ => s.dev

/-- A write-type command (R243). -/
def isWriteType : Instr → Bool
  | .rdsr1 => false
  | .rdsr2 => false
  | .wren => true
  | .wrsr _ _ => true
  | .enterQuad _ => false
  | .exitQuad _ => false

/-- Reset (R300). An outstanding exchange is abandoned: for the device it is a failed one (R302, R236), and
it is recorded as abandoned (log entry 13). -/
def takeReset (s : State) (l : Leftover) (x : Draws) : Result :=
  match s.outstanding, s.emits with
  | true, some i =>
    let t := s.withBus ⟨.block, s.h, { x with answer := .fail }⟩
    if isWriteType i && t.hitsBusy then .refused .deviceBusy
    else .next ((t.settle (t.devAfter i) i .abandoned).resetBlock l)
  | _, _ => .next (s.resetBlock l)

/-- Supplying POLL_BOUND: before the first operation only, and then it is a constant of the run (R209, R44,
R320, U17). -/
def takeBound (s : State) (n : Nat) : Result :=
  if s.active || s.begun then .refused .pollBoundFixed else .next (s.setBound n)

end Sys2Proof.Machine
end

