-- ==== Sys2Proof/Machine/HostOps.lean ====
section
/-! DEFINITION. The host operations ENTER_QUAD and EXIT_QUAD (41_mode_control R155, R156). Each is the
host's start (43_bus_attachment R201, R203); the operation's other lines are the block's exchanges, one a
step (R7, R150). -/

namespace Sys2Proof.Machine

/-- ENTER_QUAD (R155). -/
def execEnterQuad (handle : Handle) (s : State) : Result :=
  .next (s.start .enterQuad handle)

/-- EXIT_QUAD (R156). -/
def execExitQuad (handle : Handle) (s : State) : Result :=
  .next (s.start .exitQuad handle)

end Sys2Proof.Machine
end

