-- ==== Sys2Proof/Machine/WireRead.lean ====
section
/-! DEFINITION. The read commands: what the device answers (44_device_model R222, R223) and what the
issuer does with it (40_status_access R131, R132; 42_busy_wait R182). -/

namespace Sys2Proof.Machine

/-- RDSR1. In the block it is READ_STATUS1 in RD1 (R131) and the poll in POLL (R182). -/
def execRdsr1 (s : State) : Result :=
  let got := s.received (s.dev.status1 s.bus.draws)
  let t := s.settle s.devAfterRead .rdsr1 (readReply got)
  match s.bus.master, s.st with
  | .other, _ => .next t
  | .block, .rd1 => .next (t.onRd1 got)
  | .block, .poll => .next (t.onPoll got)
  | .block, _ => .fault .notEmitted

/-- RDSR2. In the block it is READ_STATUS2 in RD2 (R132). -/
def execRdsr2 (s : State) : Result :=
  let got := s.received (s.dev.status2 s.bus.draws)
  let t := s.settle s.devAfterRead .rdsr2 (readReply got)
  match s.bus.master, s.st with
  | .other, _ => .next t
  | .block, .rd2 => .next (t.onRd2 got)
  | .block, _ => .fault .notEmitted

end Sys2Proof.Machine
end

