-- ==== Sys2Proof/Machine/WireWrite.lean ====
section
/-! DEFINITION. The write-type commands: the device's side (44_device_model R224, R225, R227, R236, R243)
and WRITE_STATUS in the block (40_status_access R133, R134). -/

namespace Sys2Proof.Machine

/-- WREN. In the block it is the first step of WRITE_STATUS (R133). -/
def execWren (s : State) : Result :=
  let t := s.settle s.devAfterWren .wren (sendReply s.bus.draws.answer)
  match s.bus.master, s.st with
  | .other, _ => if s.hitsBusy then .refused .deviceBusy else .next t
  | .block, .wren =>
    if s.hitsBusy then .refused .deviceBusy else .next (t.onWren s.bus.draws.answer)
  | .block, _ => .fault .notEmitted

/-- WRSR. In the block it is the second step of WRITE_STATUS, with the operands of R104 (R134). -/
def execWrsr (a b : Byte) (s : State) : Result :=
  let t := s.settle (s.devAfterWrsr a b) (.wrsr a b) (sendReply s.bus.draws.answer)
  match s.bus.master with
  | .other => if s.hitsBusy then .refused .deviceBusy else .next t
  | .block =>
    if s.emits = some (.wrsr a b) then
      if s.hitsBusy then .refused .deviceBusy else .next (t.onWrsr s.bus.draws.answer)
    else .fault .notEmitted

end Sys2Proof.Machine
end

