-- ==== Sys2Proof/Machine/Dispatch.lean ====
section
/-! DEFINITION. One arm per instruction, each a direct call of its meaning. -/

namespace Sys2Proof.Machine

def exec (i : Instr) (s : State) : Host.Outcome State Fault Refusal :=
  match i with
  | .rdsr1 => Sys2Proof.Machine.execRdsr1 s
  | .rdsr2 => Sys2Proof.Machine.execRdsr2 s
  | .wren => Sys2Proof.Machine.execWren s
  | .wrsr a b => Sys2Proof.Machine.execWrsr a b s
  | .enterQuad handle => Sys2Proof.Machine.execEnterQuad handle s
  | .exitQuad handle => Sys2Proof.Machine.execExitQuad handle s

end Sys2Proof.Machine
end

