-- ==== Sys2Proof/Machine/Fetch.lean ====
section
/-! DEFINITION. What moves next, and the instruction it presents, if any: a start on the host port
(43_bus_attachment R201), the exchange of the block's own state (41_mode_control R150, 30_encoding R109),
or another user's exchange (U6). -/

namespace Sys2Proof.Machine

/-- The environment's next move: the one already fixed, or else the free one (log entries 1 and 2). -/
def State.nextEvent (s : State) : Event :=
  match s.schedule with
  | e :: _ => e
  | [] => Config.environment s.clock

/-- The move is consumed. -/
def State.advance (s : State) : State :=
  { s with schedule := s.schedule.tail, clock := s.clock + 1 }

/-- Either an instruction is presented in a state, or the step is already over. -/
inductive Fetched where
  | presents (c : Code) (s : State)
  | moved (r : Result)

/-- One move of the environment, up to the instruction it presents. -/
def fetch (s : State) : Fetched :=
  match s.nextEvent with
  | .start op handle => .presents (.hostop op handle) s.advance
  | .reset l x => .moved (takeReset s.advance l x)
  | .setBound n => .moved (takeBound s.advance n)
  | .transport x =>
    match s.emits with
    | some i => .presents (encode i) (s.advance.withBus ⟨.block, s.h, x⟩)
    | none => .moved (.next s.advance)
  | .silence => .moved (.next s.advance.wait)
  | .commit => .moved (.next s.advance.commit)
  | .other handle tx k x => .presents (.xchg tx k) (s.advance.withBus ⟨.other, s.par.handleBits handle, x⟩)

/-- The draws of an exchange that `present` places: answered Ok, the byte 0x00, WEL 0. DESIGN CHOICE, log entry
19: the spec leaves all of them free (R73, R222, R223, R228), and they are fixed here for a placed word alone, a
busy read's byte and WEL after a read at WEL = 1 included; a step on any other move has them free. -/
def answeredOk : Draws := { answer := .ok, byte := 0, wel := false, arrived := true }

/-- The move that presents a form: a host operation as a start, an exchange as another user's exchange on
the modelled device's link with the draws `answeredOk` (log entry 19). -/
def State.present (s : State) : Code → Event
  | .hostop op handle => .start op handle
  | .xchg tx k => .other s.par.link tx k answeredOk

end Sys2Proof.Machine
end

