-- ==== Sys2Proof/Machine/Step.lean ====
section
/-! DEFINITION. One step: the environment's next move; if it presents an instruction, that instruction is
decoded and executed. -/

namespace Sys2Proof.Machine

/-- One step of the machine. -/
def step (s : State) : Host.Outcome State Fault Refusal :=
  match fetch s with
  | .moved r => r
  | .presents c t =>
    match decode c with
    | .ok i => exec i t
    | .error why => .refused (.notACommand why)

/-- `s` with the instruction of a table word presented at the next step (log entry 19). -/
def State.withFetchWord (s : State) (nbits w : Nat) : State :=
  { s with schedule := s.present (tableCode nbits w) :: s.schedule }

end Sys2Proof.Machine
end

