-- ==== Sys2Proof/Safety.lean ====
section
/-! DEFINITION. The terms claims use: runs of several steps, quiescence (10_state R57), the host's duties
(43_bus_attachment R205, R210; 70_reset_and_hazards R312), the block's part of the trace, the invariants of
the machine, and the premises DEVICE_COMPLIANT and TRANSPORT_RESPONSIVE of a run (00_scope R9). -/

namespace Sys2Proof.Machine

/-- `n` steps, stopping at the first fault or refusal. -/
def run : Nat → State → Result
  | 0, s => .next s
  | n + 1, s =>
    match step s with
    | .next t => run n t
    | .fault f => .fault f
    | .refused r => .refused r

/-- The device is quiescent: no write cycle and no write-enable pending (R57, R221). -/
def Device.quiescent (d : Device) : Bool := !d.wip && !d.wel

/-- A move that keeps the host's duties in state `s`: no start while active and only on a quiescent device
(R205, R312), no other user's exchange during an operation (R205, R210), POLL_BOUND a constant of the run (R44,
R209). That the bar is on another user's exchange on EVERY handle is a DESIGN CHOICE, log entry 20: R210 bars "that
transport or device" and allows anything else, and the spec does not say whether two handles share a transport. -/
def dutiful (s : State) : Event → Bool
  | .start _ _ => !s.active && s.dev.quiescent
  | .reset _ _ => true
  | .setBound _ => !s.active && !s.begun
  | .transport _ => true
  | .silence => true
  | .commit => true
  | .other _ _ _ _ => !s.active

/-- The block's exchanges, newest first (R19, R135). -/
def State.blockTrace (s : State) : List Exchange := s.trace.filter (fun x => decide (x.master = .block))

/-- A Write Status exchange. -/
def Exchange.isWriteStatus (x : Exchange) : Bool := decide (x.tx.head? = some Opcode.wrsr)

/-- A Write Enable exchange that returned Ok. -/
def Exchange.isWriteEnableOk (x : Exchange) : Bool := decide (x.tx = [Opcode.wren] ∧ x.reply = .ok [])

/-- In a trace, newest first: every Write Status comes immediately after a Write Enable that returned Ok. -/
def writesEnabled : List Exchange → Bool
  | [] => true
  | x :: older => (!x.isWriteStatus || older.head?.any (·.isWriteEnableOk)) && writesEnabled older

/-- The write-enable pairing (R135): the trace keeps it, and in WRSR the last exchange was the enable. -/
def EnablePaired (s : State) : Prop :=
  writesEnabled s.blockTrace = true ∧
    (s.st = .wrsr → s.blockTrace.head?.any (·.isWriteEnableOk) = true)

/-- RES and MODE agree with each other, with ST and with OP (R40, R42): during an operation nothing is
reported; a known mode is reported exactly after a completed operation, and it is OP's. -/
def ResultsConsistent (s : State) : Prop :=
  (s.active = true → s.res = .none) ∧
    (s.res = .ok → s.mode = completedMode s.op) ∧ (s.res ≠ .ok → s.mode = .unknown)

/-- "When POLL_BOUND != 0, PCNT never exceeds POLL_BOUND - 1" (R38). -/
def PollCountBelowBound (s : State) : Prop :=
  s.st = .poll → s.par.pollBound ≠ 0 → s.pcnt < s.par.pollBound

/-- An exchange is outstanding only during an operation (R210, R273). -/
def OutstandingOnlyActive (s : State) : Prop := s.outstanding = true → s.active = true

/-- The values that have a width keep it, and the counter has at least one bit (R9, R34, R38, R44, R200). -/
def WidthsRespected (s : State) : Prop :=
  1 ≤ s.par.pollW ∧ s.pcnt < 2 ^ s.par.pollW ∧ s.par.pollBound < 2 ^ s.par.pollW ∧
    s.h < 2 ^ s.par.handleW ∧ s.par.link < 2 ^ s.par.handleW ∧ s.bus.handle < 2 ^ s.par.handleW

/-- Before its Write Status an operation sees a device without a write cycle (R312). -/
def NotBusyBeforeWrite (s : State) : Prop :=
  s.st = .rd1 ∨ s.st = .rd2 ∨ s.st = .wren ∨ s.st = .wrsr → s.dev.wip = false

/-- Two states that agree in everything a later step can read. OP and H are read only during an operation,
S1 from RD2 to WRSR, S2 in WREN and WRSR, PCNT in POLL, RES and MODE never (R33 to R38, R41, R43). -/
structure AgreeOnLive (s s' : State) : Prop where
  st : s.st = s'.st
  dev : s.dev = s'.dev
  par : s.par = s'.par
  begun : s.begun = s'.begun
  bus : s.bus = s'.bus
  outstanding : s.outstanding = s'.outstanding
  trace : s.trace = s'.trace
  schedule : s.schedule = s'.schedule
  clock : s.clock = s'.clock
  op : s.st ≠ .idle → s.op = s'.op
  h : s.st ≠ .idle → s.h = s'.h
  s1 : s.st = .rd2 ∨ s.st = .wren ∨ s.st = .wrsr → s.s1 = s'.s1
  s2 : s.st = .wren ∨ s.st = .wrsr → s.s2 = s'.s2
  pcnt : s.st = .poll → s.pcnt = s'.pcnt

/-- The exchange of the block on its own handle, as the trace records it. -/
def blockExchange (h : Handle) (i : Instr) (reply : Reply) : Exchange :=
  ⟨.block, h, codeTx (encode i), codeK (encode i), reply⟩

/-- In a trace, newest first: every Write Status comes right after the Write Enable, the Read Status2 and the
Read Status1 of its operation, and carries the pair they read with bit 1 of Status2 set or cleared (R158). -/
def writesCarryPairRead : List Exchange → Prop
  | [] => True
  | x :: older =>
    (x.isWriteStatus = true → ∃ (a b w : Byte) (rest : List Exchange),
      x.tx = [Opcode.wrsr, a, w] ∧ (w = b ||| 0x02 ∨ w = b &&& 0xFD) ∧
        older = blockExchange x.handle .wren (.ok []) :: blockExchange x.handle .rdsr2 (.ok [b]) ::
          blockExchange x.handle .rdsr1 (.ok [a]) :: rest) ∧
      writesCarryPairRead older

/-- The read-modify-write in every run: the trace keeps it, and S1 and S2 are what the operation's own reads,
its last exchanges, brought (R131, R132, R158). -/
def PairReadCarried (s : State) : Prop :=
  writesCarryPairRead s.blockTrace ∧
    (s.st = .rd2 → ∃ rest, s.blockTrace = blockExchange s.h .rdsr1 (.ok [s.s1]) :: rest) ∧
    (s.st = .wren → ∃ rest, s.blockTrace =
      blockExchange s.h .rdsr2 (.ok [s.s2]) :: blockExchange s.h .rdsr1 (.ok [s.s1]) :: rest) ∧
    (s.st = .wrsr → ∃ rest, s.blockTrace = blockExchange s.h .wren (.ok []) ::
      blockExchange s.h .rdsr2 (.ok [s.s2]) :: blockExchange s.h .rdsr1 (.ok [s.s1]) :: rest)

/-! Runs without end: the environment's moves are a sequence, each step taken on the next of them. -/

/-- The step on the given move, whatever moves were fixed before. -/
def stepOn (s : State) (e : Event) : Result := step { s with schedule := [e] }

/-- `r` is the run on the moves `moves`: no step of it stops. -/
def IsRun (moves : Nat → Event) (r : Nat → State) : Prop := ∀ n, stepOn (r n) (moves n) = .next (r (n + 1))

/-- DEVICE_COMPLIANT (R9, R233): whenever WIP = 1, commit eventually happens. -/
def DeviceCompliant (moves : Nat → Event) (r : Nat → State) : Prop :=
  ∀ n, (r n).dev.wip = true → ∃ m, n ≤ m ∧ moves m = .commit

/-- TRANSPORT_RESPONSIVE (R9, R76): every issued exchange is eventually answered with Ok or Fail, unless a reset
abandons it first (R300). The block has one issued in every state but IDLE (R150). -/
def TransportResponsive (moves : Nat → Event) (r : Nat → State) : Prop :=
  ∀ n, (r n).active = true → ∃ m, n ≤ m ∧ ((∃ x, moves m = .transport x) ∨ ∃ l x, moves m = .reset l x)

end Sys2Proof.Machine
end

