-- ==== Sys2Proof/Certificates/Slice0/Obligations.lean ====
section
/-! DEFINITION. The statements for the provers, from the spec's numbered rules. In the block's statements
`s.bus` is the exchange on the transport port: whose it is, its handle, the environment's draws. A draw
stands for every value it can have. "Decision D<n>" in a docstring is spec/92_eei_decisions.md's. -/

open Sys2Proof Sys2Proof.Machine

/-! ## Reset and the host's codes -/

/-- R301, R55 (decision D14). The other fields' values at reset are the model's or the defaults of R9 (log
entries 2, 4 to 9, 17) and no part of this. -/
def Obligations.ResetLeavesIdleNoneUnknown : Prop :=
  State.reset.st = .idle ∧ State.reset.res = .none ∧ State.reset.mode = .unknown ∧
    State.reset.active = false ∧ State.reset.outputs = ⟨false, 0, 0⟩

/-- The number codes of ST, OP, RES and MODE, and ACTIVE (R32, R33, R39, R40, R42; decisions D2, D5, D9, D10). -/
def Obligations.CodesOfRegistersAndOutputs : Prop :=
  (St.idle.code, St.rd1.code, St.rd2.code, St.wren.code, St.wrsr.code, St.poll.code) = (0, 1, 2, 3, 4, 5) ∧
    (opCode .enterQuad, opCode .exitQuad) = (0, 1) ∧
    (Res.none.code, Res.ok.code, Res.transportError.code, Res.deviceNotReady.code) = (0, 1, 2, 3) ∧
    (Mode.unknown.code, Mode.single.code, Mode.quad.code) = (0, 1, 2) ∧
    (∀ m : Mode, m.code ≠ 3) ∧
    ∀ s : State, s.outputs = ⟨decide (s.st ≠ .idle), s.res.code, s.mode.code⟩

/-! ## The host operations -/

/-- Start from IDLE (R201, R155, R156; decision D2): five registers written, H with what HANDLE_W bits carry
(R34), everything else kept, no exchange. That POLL_BOUND is fixed from then on is recorded in `begun` (R44; log
entry 6). -/
def Obligations.StartBeginsOperation : Prop :=
  ∀ (s : State) (handle : Handle), s.st = .idle →
    exec (.enterQuad handle) s =
        .next { s with
          op := .enterQuad, h := handle % 2 ^ s.par.handleW, res := .none, mode := .unknown, st := .rd1,
          begun := true } ∧
      exec (.exitQuad handle) s =
        .next { s with
          op := .exitQuad, h := handle % 2 ^ s.par.handleW, res := .none, mode := .unknown, st := .rd1,
          begun := true }

/-- Start while active is ignored (R203; decision D11). -/
def Obligations.StartWhileActiveIsIgnored : Prop :=
  ∀ (s : State) (handle : Handle), s.st ≠ .idle →
    exec (.enterQuad handle) s = .next s ∧ exec (.exitQuad handle) s = .next s

/-- The frame of ENTER_QUAD and EXIT_QUAD: the device, the configuration, the trace, the port, S1, S2 and
PCNT are untouched in every state. -/
def Obligations.HostOperationsFrame : Prop :=
  ∀ (s t : State) (handle : Handle),
    exec (.enterQuad handle) s = .next t ∨ exec (.exitQuad handle) s = .next t →
      t.s1 = s.s1 ∧ t.s2 = s.s2 ∧ t.pcnt = s.pcnt ∧ t.dev = s.dev ∧ t.par = s.par ∧ t.bus = s.bus ∧
        t.outstanding = s.outstanding ∧ t.trace = s.trace ∧ t.schedule = s.schedule ∧ t.clock = s.clock ∧
        (s.st ≠ .idle →
          t.st = s.st ∧ t.op = s.op ∧ t.h = s.h ∧ t.res = s.res ∧ t.mode = s.mode ∧ t.begun = s.begun)

/-! ## What a step runs -/

/-- When a move presents a form that decodes to `i`, the step is `exec i` after the move is consumed (and,
for an exchange, put on the transport port with its handle and its draws). A start presents the select bit and
the handle (R106, R201); the block presents the exchange of its state on handle H (R34, R150); another user presents
its bytes on a handle of HANDLE_W bits (U6, R15). The consumed move and the step count are the model's own (log
entries 1 and 2). -/
def Obligations.StepRunsTheDecodedInstruction : Prop :=
  (∀ (s : State) (op : BitVec 1) (handle : Handle) (i : Instr),
      s.nextEvent = .start op handle → decode (.hostop op handle) = .ok i →
      step s = exec i { s with schedule := s.schedule.tail, clock := s.clock + 1 }) ∧
    (∀ (s : State) (x : Draws) (c i : Instr),
      s.nextEvent = .transport x → s.emits = some c → decode (encode c) = .ok i →
      step s = exec i { s with schedule := s.schedule.tail, clock := s.clock + 1, bus := ⟨.block, s.h, x⟩ }) ∧
    ∀ (s : State) (handle : Handle) (tx : List Byte) (k : Nat) (x : Draws) (i : Instr),
      s.nextEvent = .other handle tx k x → decode (.xchg tx k) = .ok i →
      step s = exec i { s with
        schedule := s.schedule.tail, clock := s.clock + 1, bus := ⟨.other, handle % 2 ^ s.par.handleW, x⟩ }

/-- The emission map, state by state (R109; R150, R31 with decision D5): the command each state of the block
runs when the transport answers, and nothing in IDLE. -/
def Obligations.EachStateEmitsItsCommand : Prop :=
  ∀ (s u : State) (x : Draws), s.nextEvent = .transport x →
    u = { s with schedule := s.schedule.tail, clock := s.clock + 1, bus := ⟨.block, s.h, x⟩ } →
      (s.st = .idle → step s = .next { s with schedule := s.schedule.tail, clock := s.clock + 1 }) ∧
      (s.st = .rd1 → step s = exec .rdsr1 u) ∧
      (s.st = .rd2 → step s = exec .rdsr2 u) ∧
      (s.st = .wren → step s = exec .wren u) ∧
      (s.st = .wrsr → s.op = .enterQuad → step s = exec (.wrsr s.s1 (s.s2 ||| 0x02)) u) ∧
      (s.st = .wrsr → s.op = .exitQuad → step s = exec (.wrsr s.s1 (s.s2 &&& 0xFD)) u) ∧
      (s.st = .poll → step s = exec .rdsr1 u)

/-- An exchange that is none of the four commands has no meaning: it is refused (R229, R110). -/
def Obligations.UnknownCommandIsRefused : Prop :=
  ∀ (s : State) (handle : Handle) (tx : List Byte) (k : Nat) (x : Draws) (why : Reject),
    s.nextEvent = .other handle tx k x → decode (.xchg tx k) = .error why →
      step s = .refused (.notACommand why)

/-- The environment's moves that present no instruction: the transport's silence leaves the block waiting
with its exchange outstanding (R76, R321; decision D4). -/
def Obligations.SilenceLeavesTheBlockWaiting : Prop :=
  ∀ s : State, s.nextEvent = .silence →
    step s = .next { s with
      schedule := s.schedule.tail, clock := s.clock + 1, outstanding := decide (s.st ≠ .idle) }

/-- No step faults: the block never puts a command on the port that its state does not emit (R109, R264).
The fault is the model's own (log entry 15). -/
def Obligations.NoStepFaults : Prop := ∀ (s : State) (f : Fault), step s ≠ .fault f

/-- An exchange marked as the block's that its state does not emit is stuck by name (model's choice, log
entry 15, after R109). -/
def Obligations.CommandsNotEmittedAreStuck : Prop :=
  ∀ (s : State), s.bus.master = .block →
    (s.st ≠ .rd1 ∧ s.st ≠ .poll → exec .rdsr1 s = .fault .notEmitted) ∧
      (s.st ≠ .rd2 → exec .rdsr2 s = .fault .notEmitted) ∧
      (s.st ≠ .wren → exec .wren s = .fault .notEmitted) ∧
      ∀ a b : Byte, ¬(s.st = .wrsr ∧ a = s.s1 ∧ b = w2 s.op s.s2) →
        exec (.wrsr a b) s = .fault .notEmitted

/-! ## The block's steps -/

/-- READ_STATUS1 (R131): Ok stores the byte whatever it is and goes to RD2; Fail aborts. The byte is the
device's answer, or from another link the draw (R74). The device's WEL follows R228. -/
def Obligations.ReadStatus1StoresOrAborts : Prop :=
  ∀ (s : State) (b : Byte) (d : Device), s.bus.master = .block → s.st = .rd1 →
    b = (if s.bus.handle = s.par.link then
          (if s.dev.wip then s.bus.draws.byte ||| 0x01 else s.dev.n1 &&& 0xFE)
        else s.bus.draws.byte) →
    d = (if s.bus.handle = s.par.link ∧ s.dev.wel = true then { s.dev with wel := s.bus.draws.wel }
        else s.dev) →
      (s.bus.draws.answer = .ok → exec .rdsr1 s = .next { s with
        s1 := b, st := .rd2, dev := d, outstanding := false,
        trace := ⟨.block, s.bus.handle, [0x05], 1, .ok [b]⟩ :: s.trace }) ∧
      (s.bus.draws.answer = .fail → exec .rdsr1 s = .next { s with
        res := .transportError, mode := .unknown, st := .idle, dev := d, outstanding := false,
        trace := ⟨.block, s.bus.handle, [0x05], 1, .fail⟩ :: s.trace })

/-- READ_STATUS2 (R132): Ok stores the byte unmodified and goes to WREN; Fail aborts. -/
def Obligations.ReadStatus2StoresOrAborts : Prop :=
  ∀ (s : State) (b : Byte) (d : Device), s.bus.master = .block → s.st = .rd2 →
    b = (if s.bus.handle = s.par.link then (if s.dev.wip then s.bus.draws.byte else s.dev.n2)
        else s.bus.draws.byte) →
    d = (if s.bus.handle = s.par.link ∧ s.dev.wel = true then { s.dev with wel := s.bus.draws.wel }
        else s.dev) →
      (s.bus.draws.answer = .ok → exec .rdsr2 s = .next { s with
        s2 := b, st := .wren, dev := d, outstanding := false,
        trace := ⟨.block, s.bus.handle, [0x35], 1, .ok [b]⟩ :: s.trace }) ∧
      (s.bus.draws.answer = .fail → exec .rdsr2 s = .next { s with
        res := .transportError, mode := .unknown, st := .idle, dev := d, outstanding := false,
        trace := ⟨.block, s.bus.handle, [0x35], 1, .fail⟩ :: s.trace })

/-- WRITE_STATUS, first step (R133; decision D12), at a device without a write cycle or on another link:
Ok goes to WRSR and the device's WEL is set; Fail aborts, and WEL is set or kept (R236, decision D21). -/
def Obligations.WriteEnableStepAdvancesOrAborts : Prop :=
  ∀ s : State, s.bus.master = .block → s.st = .wren →
    (s.bus.handle = s.par.link → s.dev.wip = false) →
      (s.bus.draws.answer = .ok → exec .wren s = .next { s with
        st := .wrsr, outstanding := false,
        dev := if s.bus.handle = s.par.link then { s.dev with wel := true } else s.dev,
        trace := ⟨.block, s.bus.handle, [0x06], 0, .ok []⟩ :: s.trace }) ∧
      (s.bus.draws.answer = .fail → exec .wren s = .next { s with
        res := .transportError, mode := .unknown, st := .idle, outstanding := false,
        dev := if s.bus.handle = s.par.link ∧ s.bus.draws.arrived = true then { s.dev with wel := true }
          else s.dev,
        trace := ⟨.block, s.bus.handle, [0x06], 0, .fail⟩ :: s.trace })

/-- WRITE_STATUS, second step (R134), at a device without a write cycle or on another link: S1 and W2 are
sent; Ok clears PCNT and goes to POLL; Fail aborts. An enabled device latches the pair when it arrives, and a
failed write that does not arrive leaves WEL a draw (R225, R227, R236). -/
def Obligations.WriteStatusStepStartsPollingOrAborts : Prop :=
  ∀ (s : State) (w : Byte), s.bus.master = .block → s.st = .wrsr →
    (s.bus.handle = s.par.link → s.dev.wip = false) →
    w = (match s.op with | .enterQuad => s.s2 ||| 0x02 | .exitQuad => s.s2 &&& 0xFD) →
      (s.bus.draws.answer = .ok → exec (.wrsr s.s1 w) s = .next { s with
        pcnt := 0, st := .poll, outstanding := false,
        dev := if s.bus.handle = s.par.link ∧ s.dev.wel = true then
            { s.dev with p1 := s.s1, p2 := w, wip := true, wel := false } else s.dev,
        trace := ⟨.block, s.bus.handle, [0x01, s.s1, w], 0, .ok []⟩ :: s.trace }) ∧
      (s.bus.draws.answer = .fail → exec (.wrsr s.s1 w) s = .next { s with
        res := .transportError, mode := .unknown, st := .idle, outstanding := false,
        dev := if s.bus.handle = s.par.link ∧ s.dev.wel = true then
            (if s.bus.draws.arrived then { s.dev with p1 := s.s1, p2 := w, wip := true, wel := false }
              else { s.dev with wel := s.bus.draws.wel }) else s.dev,
        trace := ⟨.block, s.bus.handle, [0x01, s.s1, w], 0, .fail⟩ :: s.trace })

/-- The POLL step (R182; order of tests R274, decisions D8, D13, D22): Fail, then bit 0 = 0, then the count
n = PCNT + 1, modulo 2^POLL_W (R38). -/
def Obligations.PollStepFailsCompletesStopsOrRepeats : Prop :=
  ∀ (s u : State) (b : Byte) (d : Device) (n : Nat), s.bus.master = .block → s.st = .poll →
    n = (s.pcnt + 1) % 2 ^ s.par.pollW →
    b = (if s.bus.handle = s.par.link then
          (if s.dev.wip then s.bus.draws.byte ||| 0x01 else s.dev.n1 &&& 0xFE)
        else s.bus.draws.byte) →
    d = (if s.bus.handle = s.par.link ∧ s.dev.wel = true then { s.dev with wel := s.bus.draws.wel }
        else s.dev) →
    u = { s with
      dev := d, outstanding := false,
      trace := ⟨.block, s.bus.handle, [0x05], 1, .ok [b]⟩ :: s.trace } →
      (s.bus.draws.answer = .fail → exec .rdsr1 s = .next { s with
        res := .transportError, mode := .unknown, st := .idle, dev := d, outstanding := false,
        trace := ⟨.block, s.bus.handle, [0x05], 1, .fail⟩ :: s.trace }) ∧
      (s.bus.draws.answer = .ok → b.getLsbD 0 = false → exec .rdsr1 s = .next { u with
        res := .ok, mode := (match s.op with | .enterQuad => .quad | .exitQuad => .single), st := .idle }) ∧
      (s.bus.draws.answer = .ok → b.getLsbD 0 = true →
        s.par.pollBound ≠ 0 ∧ n = s.par.pollBound → exec .rdsr1 s = .next { u with
          res := .deviceNotReady, mode := .unknown, st := .idle }) ∧
      (s.bus.draws.answer = .ok → b.getLsbD 0 = true →
        ¬(s.par.pollBound ≠ 0 ∧ n = s.par.pollBound) → exec .rdsr1 s = .next { u with
          pcnt := n })

/-- Operand assembly (R104): status1 is S1, status2 is W2, and of W2 only bit 1 is the operation's. -/
def Obligations.WriteStatusOperandBits : Prop :=
  ∀ s : State, s.st = .wrsr → ∃ w : Byte,
    s.emits = some (.wrsr s.s1 w) ∧
      encode (.wrsr s.s1 w) = .xchg [0x01, s.s1, w] 0 ∧
      (s.op = .enterQuad → w = s.s2 ||| 0x02 ∧ w.getLsbD 1 = true) ∧
      (s.op = .exitQuad → w = s.s2 &&& 0xFD ∧ w.getLsbD 1 = false) ∧
      w.extractLsb' 2 6 = s.s2.extractLsb' 2 6 ∧ w.getLsbD 0 = s.s2.getLsbD 0

/-! ## The wire commands at the device -/

/-- RDSR1 and RDSR2 of another user at the device (R222, R223, R228, R236; decisions D18, D20, D28): what is
answered, what becomes of WEL, and nothing else but the trace. -/
def Obligations.DeviceAnswersReads : Prop :=
  ∀ (s : State) (d : Device), s.bus.master = .other → s.bus.handle = s.par.link →
    d = (if s.dev.wel then { s.dev with wel := s.bus.draws.wel } else s.dev) →
      (s.bus.draws.answer = .ok →
        exec .rdsr1 s = .next { s with
          dev := d,
          trace := ⟨.other, s.bus.handle, [0x05], 1,
            .ok [if s.dev.wip then s.bus.draws.byte ||| 0x01 else s.dev.n1 &&& 0xFE]⟩ :: s.trace } ∧
        exec .rdsr2 s = .next { s with
          dev := d,
          trace := ⟨.other, s.bus.handle, [0x35], 1,
            .ok [if s.dev.wip then s.bus.draws.byte else s.dev.n2]⟩ :: s.trace }) ∧
      (s.bus.draws.answer = .fail →
        exec .rdsr1 s = .next { s with
          dev := d, trace := ⟨.other, s.bus.handle, [0x05], 1, .fail⟩ :: s.trace } ∧
        exec .rdsr2 s = .next { s with
          dev := d, trace := ⟨.other, s.bus.handle, [0x35], 1, .fail⟩ :: s.trace })

/-- WREN of another user at a device without a write cycle (R224, R236; decisions D18, D21). -/
def Obligations.DeviceTakesWriteEnable : Prop :=
  ∀ s : State, s.bus.master = .other → s.bus.handle = s.par.link → s.dev.wip = false →
    (s.bus.draws.answer = .ok → exec .wren s = .next { s with
      dev := { s.dev with wel := true },
      trace := ⟨.other, s.bus.handle, [0x06], 0, .ok []⟩ :: s.trace }) ∧
    (s.bus.draws.answer = .fail → exec .wren s = .next { s with
      dev := { s.dev with wel := s.dev.wel || s.bus.draws.arrived },
      trace := ⟨.other, s.bus.handle, [0x06], 0, .fail⟩ :: s.trace })

/-- WRSR of another user at a device without a write cycle (R225, R236; decisions D18, D21). Enabled, it is
accepted when answered Ok or arrived; otherwise the pair, WIP and PEND are kept and WEL is a draw. Failed and not
enabled, it changes nothing at the device (answered Ok and not enabled: UnenabledWriteIsIgnored). -/
def Obligations.DeviceAcceptsEnabledWrite : Prop :=
  ∀ (s : State) (a b : Byte), s.bus.master = .other → s.bus.handle = s.par.link → s.dev.wip = false →
    (s.dev.wel = true → s.bus.draws.answer = .ok → exec (.wrsr a b) s = .next { s with
      dev := { s.dev with p1 := a, p2 := b, wip := true, wel := false },
      trace := ⟨.other, s.bus.handle, [0x01, a, b], 0, .ok []⟩ :: s.trace }) ∧
    (s.dev.wel = true → s.bus.draws.answer = .fail → exec (.wrsr a b) s = .next { s with
      dev := if s.bus.draws.arrived then { s.dev with p1 := a, p2 := b, wip := true, wel := false }
        else { s.dev with wel := s.bus.draws.wel },
      trace := ⟨.other, s.bus.handle, [0x01, a, b], 0, .fail⟩ :: s.trace }) ∧
    (s.dev.wel = false → s.bus.draws.answer = .fail → exec (.wrsr a b) s = .next { s with
      trace := ⟨.other, s.bus.handle, [0x01, a, b], 0, .fail⟩ :: s.trace })

/-- A Write Status that is not enabled is silently ignored (R227): nothing at the device changes, the exchange
returns Ok all the same, and a block that sent it would complete at its first poll with nothing written. -/
def Obligations.UnenabledWriteIsIgnored : Prop :=
  ∀ (s : State) (a b : Byte), s.bus.handle = s.par.link → s.dev.wip = false → s.dev.wel = false →
    s.bus.draws.answer = .ok →
      (s.bus.master = .other → exec (.wrsr a b) s = .next { s with
        trace := ⟨.other, s.bus.handle, [0x01, a, b], 0, .ok []⟩ :: s.trace }) ∧
      (s.bus.master = .block → s.emits = some (.wrsr a b) → exec (.wrsr a b) s = .next { s with
        pcnt := 0, st := .poll, outstanding := false,
        trace := ⟨.block, s.bus.handle, [0x01, a, b], 0, .ok []⟩ :: s.trace }) ∧
      (s.bus.master = .block → s.emits = some (.wrsr a b) → ∀ (t u : State) (x : Draws), x.answer = .ok →
        exec (.wrsr a b) s = .next t → u = { t with bus := ⟨.block, s.bus.handle, x⟩ } →
          ∃ v, exec .rdsr1 u = .next v ∧ v.st = .idle ∧ v.res = .ok ∧ v.dev = s.dev)

/-- Write-type commands at a busy device (R243; decision D20): one that reaches it is refused; one that
failed and did not arrive leaves the device alone and aborts the block (the second clause is the model's reading,
log entry 14). -/
def Obligations.BusyDeviceRefusesWrites : Prop :=
  ∀ (s : State) (i : Instr), s.bus.handle = s.par.link → s.dev.wip = true →
    i = .wren ∨ (∃ a b, i = .wrsr a b) → s.bus.master = .other ∨ s.emits = some i →
      (s.bus.draws.answer = .ok ∨ s.bus.draws.arrived = true → exec i s = .refused .deviceBusy) ∧
      (s.bus.draws.answer = .fail → s.bus.draws.arrived = false →
        ∃ t, exec i s = .next t ∧ t.dev = s.dev ∧
          (s.bus.master = .block → t.st = .idle ∧ t.res = .transportError ∧ t.mode = .unknown))

/-- What a delivered read answers, whoever issued it (R46, R47, R222, R223; decisions D18, D20): bit 0 of
Status1 is WIP, always; and from a device without a write cycle every other bit is the stored one. -/
def Obligations.DeliveredReadShowsWipAndStoredBits : Prop :=
  ∀ (s t : State) (l : Loc), s.bus.handle = s.par.link → s.bus.draws.answer = .ok →
    exec l.readCommand s = .next t →
      ∃ b : Byte, t.trace.head?.map (·.reply) = some (.ok [b]) ∧
        (l = .sr1 → b.getLsbD 0 = s.dev.wip) ∧
        (s.dev.wip = false → ∀ n, l = .sr2 ∨ n ≠ 0 → b.getLsbD n = (s.dev.stored l).getLsbD n)

/-- An exchange on a link that is not the modelled device's leaves the device alone, and a read on it brings
whatever the transport delivers (R74; the two links are the model's, log entry 4). -/
def Obligations.OtherLinkLeavesTheDevice : Prop :=
  ∀ (s t : State) (i : Instr), s.bus.handle ≠ s.par.link → exec i s = .next t →
    t.dev = s.dev ∧
      (s.bus.draws.answer = .ok → i = .rdsr1 ∨ i = .rdsr2 →
        t.trace.head?.map (·.reply) = some (.ok [s.bus.draws.byte]))

/-- The frame of RDSR1 and RDSR2: both stored bytes, WIP, PEND, the configuration, OP, H and the port are kept;
one entry is added to the trace; of another user's read the block sees nothing; in the block RD1 writes S1 alone,
RD2 writes S2 alone and POLL writes neither, besides ST and the results. -/
def Obligations.ReadCommandsFrame : Prop :=
  ∀ (s t : State) (i : Instr), i = .rdsr1 ∨ i = .rdsr2 → exec i s = .next t →
    (∀ l, t.dev.stored l = s.dev.stored l) ∧ t.dev.wip = s.dev.wip ∧ t.dev.p1 = s.dev.p1 ∧
      t.dev.p2 = s.dev.p2 ∧ (s.dev.wel = false → t.dev.wel = false) ∧ t.par = s.par ∧ t.bus = s.bus ∧
      t.schedule = s.schedule ∧ t.clock = s.clock ∧ t.op = s.op ∧ t.h = s.h ∧
      (∃ x, t.trace = x :: s.trace) ∧
      (s.bus.master = .other → t.st = s.st ∧ t.s1 = s.s1 ∧ t.s2 = s.s2 ∧ t.pcnt = s.pcnt ∧
        t.res = s.res ∧ t.mode = s.mode ∧ t.outstanding = s.outstanding) ∧
      (s.bus.master = .block → (s.st ≠ .rd1 → t.s1 = s.s1) ∧ (s.st ≠ .rd2 → t.s2 = s.s2) ∧
        (s.st ≠ .poll → t.pcnt = s.pcnt))

/-- The frame of WREN and WRSR: neither stored byte changes (they change at commit), nor do S1, S2, OP, H,
the configuration or the port; WREN keeps WIP, PEND and PCNT; PEND becomes only the pair sent; of another user's
command the block sees nothing. -/
def Obligations.WriteCommandsFrame : Prop :=
  ∀ (s t : State) (i : Instr), i = .wren ∨ (∃ a b, i = .wrsr a b) → exec i s = .next t →
    (∀ l, t.dev.stored l = s.dev.stored l) ∧ t.par = s.par ∧ t.bus = s.bus ∧
      t.schedule = s.schedule ∧ t.clock = s.clock ∧ t.op = s.op ∧ t.h = s.h ∧ t.s1 = s.s1 ∧ t.s2 = s.s2 ∧
      (∃ x, t.trace = x :: s.trace) ∧
      (i = .wren → t.dev.wip = s.dev.wip ∧ t.dev.p1 = s.dev.p1 ∧ t.dev.p2 = s.dev.p2 ∧ t.pcnt = s.pcnt) ∧
      (∀ a b, i = .wrsr a b → (t.dev.wip = s.dev.wip ∧ t.dev.p1 = s.dev.p1 ∧ t.dev.p2 = s.dev.p2) ∨
        (t.dev.wip = true ∧ t.dev.p1 = a ∧ t.dev.p2 = b)) ∧
      (s.bus.master = .other → t.st = s.st ∧ t.pcnt = s.pcnt ∧ t.res = s.res ∧ t.mode = s.mode ∧
        t.outstanding = s.outstanding)

/-! ## The write cycle -/

/-- Commit (R232, R230; decisions D18, D19): the bits of each mask take the pending value, the others keep
theirs, and WIP falls; without a write cycle nothing happens. -/
def Obligations.CommitMergesThePendingPair : Prop :=
  ∀ s : State, s.nextEvent = .commit →
    (s.dev.wip = true → step s = .next { s with
      schedule := s.schedule.tail, clock := s.clock + 1,
      dev := { s.dev with
        n1 := (s.dev.n1 &&& ~~~s.par.wmask1) ||| (s.dev.p1 &&& s.par.wmask1),
        n2 := (s.dev.n2 &&& ~~~s.par.wmask2) ||| (s.dev.p2 &&& s.par.wmask2),
        wip := false } }) ∧
    (s.dev.wip = false → step s = .next { s with schedule := s.schedule.tail, clock := s.clock + 1 })

/-- Whatever moves, the stored pair changes only at the commit of a write cycle (R81, R83, R225, R232,
R303; decision D18). -/
def Obligations.StoredPairChangesOnlyAtCommit : Prop :=
  ∀ (s t : State) (l : Loc), step s = .next t → t.dev.stored l ≠ s.dev.stored l →
    s.nextEvent = .commit ∧ s.dev.wip = true

/-- A write cycle starts only by a Write Status that found WEL = 1, and ends only by commit (R227, R231). -/
def Obligations.WriteCycleStartsAndEnds : Prop :=
  ∀ s t : State, step s = .next t →
    (s.dev.wip = false → t.dev.wip = true → s.dev.wel = true ∧ t.dev.wel = false ∧
      ∃ x, t.trace = x :: s.trace ∧ x.handle = s.par.link ∧ x.tx = [0x01, t.dev.p1, t.dev.p2]) ∧
    (s.dev.wip = true → t.dev.wip = false → s.nextEvent = .commit)

/-- The stored bit 0 of Status1 never changes, for every legal pair of masks (R221, R230; decisions D18, D19). -/
def Obligations.StoredBusyBitNeverChanges : Prop :=
  ∀ s t : State, legalMasks s.par.wmask1 s.par.wmask2 = true → step s = .next t →
    t.dev.n1.getLsbD 0 = s.dev.n1.getLsbD 0 ∧ legalMasks t.par.wmask1 t.par.wmask2 = true

/-- After a failed Write Status of the block the pair, once the write cycle (if any) has ended, is the old one
or the one written, never a third (R236, R267; decision D21). -/
def Obligations.FailedWriteLeavesOldOrWrittenPair : Prop :=
  ∀ (s : State) (x : Draws), s.st = .wrsr → s.dev.wip = false → s.nextEvent = .transport x →
    x.answer = .fail → ∃ t, step s = .next t ∧
      (((t.dev.commit t.par).n1 = s.dev.n1 ∧ (t.dev.commit t.par).n2 = s.dev.n2) ∨
        ((t.dev.commit t.par).n1 = merge s.par.wmask1 s.dev.n1 s.s1 ∧
          (t.dev.commit t.par).n2 = merge s.par.wmask2 s.dev.n2 (w2 s.op s.s2)))

/-! ## Failures -/

/-- Failure behaviour (R163): from every state with an exchange, Fail leads to IDLE in the same step; the
failed exchange is the last one issued; nothing is undone at the device. Only at a busy device is a write-type
command that failed not settled (R243), which the premise leaves out. -/
def Obligations.FailedExchangeEndsTheOperation : Prop :=
  ∀ (s : State) (x : Draws) (c : Instr), s.nextEvent = .transport x → s.emits = some c → x.answer = .fail →
    (s.dev.wip = true → c = .rdsr1 ∨ c = .rdsr2) →
      ∃ t, step s = .next t ∧ t.st = .idle ∧ t.res = .transportError ∧ t.mode = .unknown ∧
        t.op = s.op ∧ t.h = s.h ∧ t.s1 = s.s1 ∧ t.s2 = s.s2 ∧ t.pcnt = s.pcnt ∧
        t.emits = none ∧ t.outstanding = false ∧ t.trace = blockExchange s.h c .fail :: s.trace ∧
        (∀ l, t.dev.stored l = s.dev.stored l) ∧
        (s.dev.wip = true → t.dev.wip = true ∧ t.dev.p1 = s.dev.p1 ∧ t.dev.p2 = s.dev.p2)

/-- TransportError (R262): the step that reports it is the step in which an exchange of the block returned
Fail, and conversely; each of the five states can raise it. -/
def Obligations.TransportErrorIffExchangeFailed : Prop :=
  (∀ s t : State, step s = .next t → s.res ≠ .transportError →
      (t.res = .transportError ↔
        ∃ x, t.trace = x :: s.trace ∧ x.master = .block ∧ x.reply = .fail)) ∧
    ∀ (s : State) (x : Draws), s.st ≠ .idle → s.nextEvent = .transport x → x.answer = .fail →
      s.dev.wip = false → ∃ t, step s = .next t ∧ t.res = .transportError

/-- DeviceNotReady (R263, R261; decision D9): reported only by the POLL_BOUND-th busy poll. -/
def Obligations.DeviceNotReadyOnlyAtTheBound : Prop :=
  ∀ s t : State, step s = .next t → s.res ≠ .deviceNotReady → t.res = .deviceNotReady →
    s.st = .poll ∧ t.st = .idle ∧ t.mode = .unknown ∧ s.par.pollBound ≠ 0 ∧
      (s.pcnt + 1) % 2 ^ s.par.pollW = s.par.pollBound ∧
      ∃ b : Byte, t.trace = blockExchange s.h .rdsr1 (.ok [b]) :: s.trace ∧ b.getLsbD 0 = true

/-- Completion (R154; decisions D9, D10): success is reported, and a known mode set, only by a POLL step that
received a byte with bit 0 = 0. -/
def Obligations.CompletionOnlyOnAnIdlePoll : Prop :=
  ∀ s t : State, step s = .next t →
    (s.res ≠ .ok ∧ t.res = .ok) ∨ (t.mode ≠ s.mode ∧ t.mode ≠ .unknown) →
      s.st = .poll ∧ t.st = .idle ∧ t.res = .ok ∧ t.mode = completedMode s.op ∧
        ∃ b : Byte, t.trace = blockExchange s.h .rdsr1 (.ok [b]) :: s.trace ∧ b.getLsbD 0 = false

/-- Control flow (R151, R152; decisions D5, D7): ST moves along the line, back to IDLE, or not at all; an
answered exchange keeps ST only in POLL. -/
def Obligations.StateSuccessors : Prop :=
  ∀ s t : State, step s = .next t →
    (t.st = s.st ∨ t.st = .idle ∨
      (s.st, t.st) ∈ [(.idle, .rd1), (.rd1, .rd2), (.rd2, .wren), (.wren, .wrsr), (.wrsr, .poll)]) ∧
    (∀ x, s.nextEvent = .transport x → s.st ≠ .idle → t.st = s.st → s.st = .poll)

/-! ## Reset and configuration -/

/-- Reset with no exchange of the block outstanding (R300, R56, R303; decision D14): results and ST as after
reset, the five unspecified registers whatever is left, in their widths, everything else kept, the device included.
In IDLE the block has no exchange (R150). -/
def Obligations.ResetClearsBlockKeepsDevice : Prop :=
  ∀ (s : State) (l : Leftover) (x : Draws), s.nextEvent = .reset l x → s.outstanding = false ∨ s.st = .idle →
    step s = .next { s with
      schedule := s.schedule.tail, clock := s.clock + 1, st := .idle, res := .none, mode := .unknown,
      op := l.op, h := l.h % 2 ^ s.par.handleW, s1 := l.s1, s2 := l.s2, pcnt := l.pcnt % 2 ^ s.par.pollW,
      outstanding := false }

/-- Reset with an exchange of the block outstanding (R300, R302; decision D14), in every state, on every link and
at every device: the block is reset, the exchange is abandoned, and for the device it is a failed one (R236, R228;
decisions D21, D28). A busy device keeps its write cycle (the POLL row of R302). Only a write-type command that
arrived at a busy device is refused (R243, decision D20). The record of the exchange, in the trace and on the port,
is the model's (log entry 13), and so is the reading that a command that did not arrive is no matter of R243 (log
entry 14). -/
def Obligations.ResetAbandonsTheOutstandingExchange : Prop :=
  ∀ (s : State) (l : Leftover) (x : Draws) (c : Instr) (d : Device), s.nextEvent = .reset l x →
    s.outstanding = true → s.emits = some c →
    d = (if s.h = s.par.link then
          (match c with
            | .wren => if x.arrived then { s.dev with wel := true } else s.dev
            | .wrsr a b =>
              if s.dev.wel then
                (if x.arrived then { s.dev with p1 := a, p2 := b, wip := true, wel := false }
                  else { s.dev with wel := x.wel })
              else s.dev
            | _ => if s.dev.wel then { s.dev with wel := x.wel } else s.dev)
        else s.dev) →
      (s.h ≠ s.par.link ∨ s.dev.wip = false ∨ c = .rdsr1 ∨ c = .rdsr2 → step s = .next { s with
        schedule := s.schedule.tail, clock := s.clock + 1, st := .idle, res := .none, mode := .unknown,
        op := l.op, h := l.h % 2 ^ s.par.handleW, s1 := l.s1, s2 := l.s2, pcnt := l.pcnt % 2 ^ s.par.pollW,
        outstanding := false, dev := d, bus := ⟨.block, s.h, { x with answer := .fail }⟩,
        trace := blockExchange s.h c .abandoned :: s.trace }) ∧
      (s.h = s.par.link → s.dev.wip = true → c ≠ .rdsr1 → c ≠ .rdsr2 →
        (x.arrived = true → step s = .refused .deviceBusy) ∧
        (x.arrived = false → step s = .next { s with
          schedule := s.schedule.tail, clock := s.clock + 1, st := .idle, res := .none, mode := .unknown,
          op := l.op, h := l.h % 2 ^ s.par.handleW, s1 := l.s1, s2 := l.s2, pcnt := l.pcnt % 2 ^ s.par.pollW,
          outstanding := false, bus := ⟨.block, s.h, { x with answer := .fail }⟩,
          trace := blockExchange s.h c .abandoned :: s.trace }))

/-- POLL_BOUND is supplied before the first operation, in its POLL_W bits (R209; decision D26); from the first
start on it is a constant of the run, and changing it has no meaning (R44, R320, U17). How the model marks that an
operation has begun is its own (log entry 6). -/
def Obligations.BoundSuppliedBeforeTheFirstOperation : Prop :=
  ∀ (s : State) (n : Nat), s.nextEvent = .setBound n →
    (s.st = .idle → s.begun = false → step s = .next { s with
      schedule := s.schedule.tail, clock := s.clock + 1,
      par := { s.par with pollBound := n % 2 ^ s.par.pollW } }) ∧
    (s.st ≠ .idle ∨ s.begun = true → step s = .refused .pollBoundFixed)

/-- POLL_BOUND is a constant of the run (R44; decision D26): no step changes it during an operation or once one
has begun, a reset included, and none begins without that being recorded. That HANDLE_W, POLL_W, the write masks
and the device's link never change at all is the model's way of taking R9's parameters as arguments (R53, R230; log
entries 4, 5 and 7). -/
def Obligations.ConfigurationConstantWhileActive : Prop :=
  ∀ s t : State, step s = .next t →
    (s.st ≠ .idle ∨ s.begun = true → t.par = s.par) ∧ (s.begun = true → t.begun = true) ∧
      (t.st ≠ .idle → s.st ≠ .idle ∨ t.begun = true) ∧
      t.par.handleW = s.par.handleW ∧ t.par.pollW = s.par.pollW ∧ t.par.wmask1 = s.par.wmask1 ∧
      t.par.wmask2 = s.par.wmask2 ∧ t.par.link = s.par.link

/-! ## Encoding -/

/-- Words written out from the encodings (R100, R102, R106, R107, R113). -/
def Obligations.SpecWordsDecode : Prop :=
  decode (.xchg [0b00000101] 1) = .ok .rdsr1 ∧ decode (.xchg [0b00110101] 1) = .ok .rdsr2 ∧
    decode (.xchg [0b00000110] 0) = .ok .wren ∧
    decode (.xchg [0b00000001, 0xA4, 0xFA] 0) = .ok (.wrsr 0xA4 0xFA) ∧
    decode (.hostop 0 3) = .ok (.enterQuad 3) ∧ decode (.hostop 1 3) = .ok (.exitQuad 3) ∧
    decodeTableWord 24 0x01A4FA = some (.wrsr 0xA4 0xFA) ∧ decodeTableWord 8 0x35 = some .rdsr2

/-- Decoding and encoding agree in both directions, on every presented form: an instruction's form decodes to
it with every operand at every value, and nothing else decodes (R100, R102, R106, R107, R113). -/
def Obligations.DecodeAndEncodeAgree : Prop :=
  ∀ (c : Code) (i : Instr), decode c = .ok i ↔ encode i = c

/-- The table's match and mask (R101, R113): a 24-bit word is Write Status exactly when its bits 23:16 are
0x01, with status1 = bits 15:8 and status2 = bits 7:0; an 8-bit word above 1 is a command exactly when it is an
opcode. The words 0 and 1 are the host's (log entry 18). -/
def Obligations.TableWordsMatchTheirMasks : Prop :=
  (∀ w : BitVec 24, decodeTableWord 24 w.toNat =
      if w &&& 0xFF0000 = 0x010000 then some (.wrsr (w.extractLsb' 8 8) (w.extractLsb' 0 8)) else none) ∧
    (∀ w : BitVec 8, 1 < w.toNat → decodeTableWord 8 w.toNat =
      if w = 0x05 then some .rdsr1 else if w = 0x35 then some .rdsr2
      else if w = 0x06 then some .wren else none) ∧
    decodeTableWord 8 0 = some (.enterQuad 0) ∧ decodeTableWord 8 1 = some (.exitQuad 0)

/-! ## Invariants -/

/-- The invariants below hold right after reset. -/
def Obligations.InvariantsHoldAtReset : Prop :=
  EnablePaired State.reset ∧ ResultsConsistent State.reset ∧ PollCountBelowBound State.reset ∧
    OutstandingOnlyActive State.reset ∧ NotBusyBeforeWrite State.reset ∧ WidthsRespected State.reset ∧
    PairReadCarried State.reset ∧
    legalMasks State.reset.par.wmask1 State.reset.par.wmask2 = true

/-- Adjacency of the pair (R135, R86): in the block's trace every Write Status comes immediately after a Write
Enable that returned Ok. (The converse half of R135 does not survive a reset between the two steps, R300, and is
not stated.) -/
def Obligations.WriteEnableAlwaysPrecedesWrite : Prop :=
  ∀ s t : State, EnablePaired s → step s = .next t → EnablePaired t

/-- RES and MODE agree with each other, with ST and with OP (R40, R42, R154, R162; decisions D9, D10). -/
def Obligations.ResultAndModeStayConsistent : Prop :=
  ∀ s t : State, ResultsConsistent s → step s = .next t → ResultsConsistent t

/-- The poll counter stays below a configured bound (R38, R184; decisions D8, D13). -/
def Obligations.PollCounterStaysBelowBound : Prop :=
  ∀ s t : State, PollCountBelowBound s → step s = .next t → PollCountBelowBound t

/-- An exchange is outstanding only during an operation (R210, R273, R326). -/
def Obligations.NothingOutstandingWhenIdle : Prop :=
  ∀ s t : State, OutstandingOnlyActive s → step s = .next t → OutstandingOnlyActive t

/-- Every value keeps its width, whatever HANDLE_W and POLL_W are (R9, R34, R38, R44, R200; decisions D3, D8). -/
def Obligations.WidthsStayRespected : Prop :=
  ∀ s t : State, WidthsRespected s → step s = .next t → WidthsRespected t

/-- The read-modify-write in every run (R158), whatever moves come between its exchanges: each Write Status of the
block comes right after its Write Enable and its two reads, on one handle, and carries the bytes they brought with
bit 1 of Status2 set or cleared. -/
def Obligations.EveryWriteCarriesThePairRead : Prop :=
  ∀ s t : State, PairReadCarried s → step s = .next t → PairReadCarried t

/-- A host that keeps its duties never brings the block to a refusal (R205, R210, R312, R324): its operations
never meet a busy device before their write, whatever the transport and the device do. Only another user's own
write-type command can still meet one. That the duty bars other users on every handle, not on the operation's alone, is
the model's choice (log entry 20). -/
def Obligations.DutifulHostNeverMeetsARefusal : Prop :=
  ∀ s : State, NotBusyBeforeWrite s → dutiful s s.nextEvent = true →
    (∀ t, step s = .next t → NotBusyBeforeWrite t) ∧
      ((∃ r, step s = .refused r) → ∃ handle tx k x, s.nextEvent = .other handle tx k x)

/-- No operation depends on what an earlier one left (R30, R37, R41, R43, R55; decisions D5, D6, D9, D10): two
states that agree in all a later step can read answer alike and go on agreeing; RES and MODE never matter, and
agree from then on if they agreed. -/
def Obligations.StaleRegistersNeverMatter : Prop :=
  ∀ s s' : State, AgreeOnLive s s' →
    (∀ t, step s = .next t → ∃ t', step s' = .next t' ∧ AgreeOnLive t t' ∧
      (s.res = s'.res ∧ s.mode = s'.mode → t.res = t'.res ∧ t.mode = t'.mode)) ∧
    (∀ r, step s = .refused r → step s' = .refused r)

/-! ## Several steps -/

/-- Read-modify-write over four exchanges in a row (R158): the Write Status carries the byte of Status1 as read
and the byte of Status2 with bit 1 set or cleared and no other bit changed. On another link the pair is any pair
(R74, decision D4; the two links are the model's, log entry 4); on the device's link it is the stored one, bit 0
of Status1 read as WIP = 0 (R222, R223; decision D18). For other moves between the exchanges see
EveryWriteCarriesThePairRead. -/
def Obligations.WriteCarriesThePairRead : Prop :=
  ∀ (s : State) (x1 x2 x3 x4 : Draws) (rest : List Event), s.st = .rd1 →
    (s.h = s.par.link → s.dev.wip = false) →
    x1.answer = .ok → x2.answer = .ok → x3.answer = .ok → x4.answer = .ok →
    s.schedule = .transport x1 :: .transport x2 :: .transport x3 :: .transport x4 :: rest →
      ∃ (t : State) (s1 s2 w : Byte), run 4 s = .next t ∧ t.st = .poll ∧ t.schedule = rest ∧
        t.trace = blockExchange s.h (.wrsr s1 w) (.ok []) :: blockExchange s.h .wren (.ok []) ::
          blockExchange s.h .rdsr2 (.ok [s2]) :: blockExchange s.h .rdsr1 (.ok [s1]) :: s.trace ∧
        (s.op = .enterQuad → w = s2 ||| 0x02) ∧ (s.op = .exitQuad → w = s2 &&& 0xFD) ∧
        (∀ n, n ≠ 1 → w.getLsbD n = s2.getLsbD n) ∧
        (s.h ≠ s.par.link → s1 = x1.byte ∧ s2 = x2.byte) ∧
        (s.h = s.par.link → s1 = s.dev.n1 &&& 0xFE ∧ s2 = s.dev.n2)

/-- ENTER_QUAD end to end (R240, with R155, R154, R230, R232, R234; decisions D8, D10, D13, D18, D19):
from an idle block and a quiescent device with legal masks, every exchange answered Ok, `busy` polls before the
device commits and one after it, and a bound that allows them, the whole trace, the results and the device's
registers are as the rule says. The moves of the schedule are the model's way of naming the run (log entry 1). -/
def Obligations.EnterQuadEndToEnd : Prop :=
  ∀ (s : State) (x1 x2 x3 x4 x5 : Draws) (busy : List Draws) (rest : List Event) (a : Byte),
    s.st = .idle → WidthsRespected s → s.dev.quiescent = true → legalMasks s.par.wmask1 s.par.wmask2 = true →
    (∀ x ∈ x1 :: x2 :: x3 :: x4 :: x5 :: busy, x.answer = .ok) →
    (s.par.pollBound = 0 ∨ busy.length + 1 ≤ s.par.pollBound) →
    s.schedule = .start 0 s.par.link :: .transport x1 :: .transport x2 :: .transport x3 :: .transport x4 ::
      (busy.map .transport ++ .commit :: .transport x5 :: rest) →
    a = s.dev.n1 &&& 0xFE →
      ∃ t, run (busy.length + 7) s = .next t ∧ t.st = .idle ∧ t.res = .ok ∧ t.mode = .quad ∧
        t.outstanding = false ∧ t.schedule = rest ∧
        t.dev.n1 = s.dev.n1 ∧ t.dev.n2 = s.dev.n2 ||| 0x02 ∧ t.dev.wel = false ∧ t.dev.wip = false ∧
        t.trace = blockExchange s.par.link .rdsr1 (.ok [a]) ::
          ((busy.map fun x => blockExchange s.par.link .rdsr1 (.ok [x.byte ||| 0x01])).reverse ++
            blockExchange s.par.link (.wrsr a (s.dev.n2 ||| 0x02)) (.ok []) ::
            blockExchange s.par.link .wren (.ok []) ::
            blockExchange s.par.link .rdsr2 (.ok [s.dev.n2]) ::
            blockExchange s.par.link .rdsr1 (.ok [a]) :: s.trace)

/-- EXIT_QUAD end to end (R241, with R156, R154, R230, R232, R234; decisions D8, D10, D13, D18, D19). The moves of
the schedule are the model's way of naming the run (log entry 1). -/
def Obligations.ExitQuadEndToEnd : Prop :=
  ∀ (s : State) (x1 x2 x3 x4 x5 : Draws) (busy : List Draws) (rest : List Event) (a : Byte),
    s.st = .idle → WidthsRespected s → s.dev.quiescent = true → legalMasks s.par.wmask1 s.par.wmask2 = true →
    (∀ x ∈ x1 :: x2 :: x3 :: x4 :: x5 :: busy, x.answer = .ok) →
    (s.par.pollBound = 0 ∨ busy.length + 1 ≤ s.par.pollBound) →
    s.schedule = .start 1 s.par.link :: .transport x1 :: .transport x2 :: .transport x3 :: .transport x4 ::
      (busy.map .transport ++ .commit :: .transport x5 :: rest) →
    a = s.dev.n1 &&& 0xFE →
      ∃ t, run (busy.length + 7) s = .next t ∧ t.st = .idle ∧ t.res = .ok ∧ t.mode = .single ∧
        t.outstanding = false ∧ t.schedule = rest ∧
        t.dev.n1 = s.dev.n1 ∧ t.dev.n2 = s.dev.n2 &&& 0xFD ∧ t.dev.wel = false ∧ t.dev.wip = false ∧
        t.trace = blockExchange s.par.link .rdsr1 (.ok [a]) ::
          ((busy.map fun x => blockExchange s.par.link .rdsr1 (.ok [x.byte ||| 0x01])).reverse ++
            blockExchange s.par.link (.wrsr a (s.dev.n2 &&& 0xFD)) (.ok []) ::
            blockExchange s.par.link .wren (.ok []) ::
            blockExchange s.par.link .rdsr2 (.ok [s.dev.n2]) ::
            blockExchange s.par.link .rdsr1 (.ok [a]) :: s.trace)

/-- Exact count (R184, R263): against a device, or a transport, whose every answer reads busy, WAIT_READY with
a bound of N issues exactly N polls, is still polling after each earlier one, and then reports DEVICE_NOT_READY. -/
def Obligations.NeverReadyDeviceGetsExactlyNPolls : Prop :=
  ∀ (s : State) (polls : List Draws) (rest : List Event), s.st = .poll → WidthsRespected s → s.pcnt = 0 →
    s.par.pollBound ≠ 0 → polls.length = s.par.pollBound →
    s.schedule = polls.map .transport ++ rest → (∀ x ∈ polls, x.answer = .ok) →
    ((s.h = s.par.link ∧ s.dev.wip = true) ∨ (s.h ≠ s.par.link ∧ ∀ x ∈ polls, x.byte.getLsbD 0 = true)) →
      (∀ j, j < polls.length → ∃ t, run j s = .next t ∧ t.st = .poll ∧ t.pcnt = j) ∧
        ∃ t, run polls.length s = .next t ∧ t.st = .idle ∧ t.res = .deviceNotReady ∧ t.mode = .unknown ∧
          t.schedule = rest ∧
          t.trace = (polls.map fun x => blockExchange s.h .rdsr1 (.ok [x.byte ||| 0x01])).reverse ++ s.trace

/-- Termination (R186): with a bound WAIT_READY ends within POLL_BOUND answered polls, whatever they read;
without one it is still polling after any number of busy polls. -/
def Obligations.WaitReadyTermination : Prop :=
  (∀ (s : State) (polls : List Draws) (rest : List Event), s.st = .poll → WidthsRespected s → s.pcnt = 0 →
      s.par.pollBound ≠ 0 → polls.length = s.par.pollBound →
      s.schedule = polls.map .transport ++ rest →
        ∃ j t, j ≤ polls.length ∧ run j s = .next t ∧ t.st = .idle) ∧
    (∀ (s : State) (polls : List Draws) (rest : List Event), s.st = .poll → WidthsRespected s →
      s.par.pollBound = 0 →
      s.schedule = polls.map .transport ++ rest → (∀ x ∈ polls, x.answer = .ok) →
      ((s.h = s.par.link ∧ s.dev.wip = true) ∨ (s.h ≠ s.par.link ∧ ∀ x ∈ polls, x.byte.getLsbD 0 = true)) →
        ∃ t, run polls.length s = .next t ∧ t.st = .poll ∧ t.res = s.res ∧ t.mode = s.mode ∧
          t.pcnt = (s.pcnt + polls.length) % 2 ^ s.par.pollW)

/-- Every operation ends under the premises of R9 (R76, R186, R233; decisions D4, D8): on a transport that answers
every exchange, with a bound always, and without one on a compliant device that the block has to itself (R205),
whatever moves come in whatever order. That nobody else uses any handle then is the model's reading of having it to
itself (log entry 20). -/
def Obligations.ResponsiveOperationEnds : Prop :=
  ∀ (moves : Nat → Event) (r : Nat → State) (n : Nat), IsRun moves r → TransportResponsive moves r →
    (r n).active = true →
      ((r n).par.pollBound ≠ 0 → WidthsRespected (r n) → PollCountBelowBound (r n) →
        ∃ m, n ≤ m ∧ (r m).st = .idle) ∧
      (DeviceCompliant moves r → (r n).h = (r n).par.link →
        (∀ m, n ≤ m → ∀ handle tx k x, moves m ≠ .other handle tx k x) → ∃ m, n ≤ m ∧ (r m).st = .idle)

/-- An absent device (R237, R235): the first exchange of either operation fails, and the operation is over
after that one exchange. -/
def Obligations.AbsentDeviceAbortsAtOnce : Prop :=
  ∀ (s : State) (op : BitVec 1) (handle : Handle) (x : Draws) (rest : List Event), s.st = .idle →
    s.dev.wel = false → x.answer = .fail → s.schedule = .start op handle :: .transport x :: rest →
      ∃ t, run 2 s = .next t ∧ t.st = .idle ∧ t.res = .transportError ∧ t.mode = .unknown ∧
        t.dev = s.dev ∧ t.schedule = rest ∧
        t.trace = blockExchange (handle % 2 ^ s.par.handleW) .rdsr1 .fail :: s.trace
end

