-- ==== Sys2Proof/Laws/State.lean ====
section
/-! SUPPORT. What each named update of the state does to each field: true by rfl, so that no later proof
unfolds a record update. -/

namespace Sys2Proof.Machine

variable (s : State)

/-! `State.abort` (R266) -/

@[simp] theorem State.abort_st (e : Res) : (s.abort e).st = .idle := rfl
@[simp] theorem State.abort_op (e : Res) : (s.abort e).op = s.op := rfl
@[simp] theorem State.abort_h (e : Res) : (s.abort e).h = s.h := rfl
@[simp] theorem State.abort_s1 (e : Res) : (s.abort e).s1 = s.s1 := rfl
@[simp] theorem State.abort_s2 (e : Res) : (s.abort e).s2 = s.s2 := rfl
@[simp] theorem State.abort_pcnt (e : Res) : (s.abort e).pcnt = s.pcnt := rfl
@[simp] theorem State.abort_res (e : Res) : (s.abort e).res = e := rfl
@[simp] theorem State.abort_mode (e : Res) : (s.abort e).mode = .unknown := rfl
@[simp] theorem State.abort_dev (e : Res) : (s.abort e).dev = s.dev := rfl
@[simp] theorem State.abort_par (e : Res) : (s.abort e).par = s.par := rfl
@[simp] theorem State.abort_begun (e : Res) : (s.abort e).begun = s.begun := rfl
@[simp] theorem State.abort_bus (e : Res) : (s.abort e).bus = s.bus := rfl
@[simp] theorem State.abort_outstanding (e : Res) : (s.abort e).outstanding = s.outstanding := rfl
@[simp] theorem State.abort_trace (e : Res) : (s.abort e).trace = s.trace := rfl
@[simp] theorem State.abort_schedule (e : Res) : (s.abort e).schedule = s.schedule := rfl
@[simp] theorem State.abort_clock (e : Res) : (s.abort e).clock = s.clock := rfl

/-! `State.begin` (R201) -/

@[simp] theorem State.begin_st (op : Op) (handle : Handle) : (s.begin op handle).st = .rd1 := rfl
@[simp] theorem State.begin_op (op : Op) (handle : Handle) : (s.begin op handle).op = op := rfl
@[simp] theorem State.begin_h (op : Op) (handle : Handle) : (s.begin op handle).h = s.par.handleBits handle := rfl
@[simp] theorem State.begin_s1 (op : Op) (handle : Handle) : (s.begin op handle).s1 = s.s1 := rfl
@[simp] theorem State.begin_s2 (op : Op) (handle : Handle) : (s.begin op handle).s2 = s.s2 := rfl
@[simp] theorem State.begin_pcnt (op : Op) (handle : Handle) : (s.begin op handle).pcnt = s.pcnt := rfl
@[simp] theorem State.begin_res (op : Op) (handle : Handle) : (s.begin op handle).res = .none := rfl
@[simp] theorem State.begin_mode (op : Op) (handle : Handle) : (s.begin op handle).mode = .unknown := rfl
@[simp] theorem State.begin_dev (op : Op) (handle : Handle) : (s.begin op handle).dev = s.dev := rfl
@[simp] theorem State.begin_par (op : Op) (handle : Handle) : (s.begin op handle).par = s.par := rfl
@[simp] theorem State.begin_begun (op : Op) (handle : Handle) : (s.begin op handle).begun = true := rfl
@[simp] theorem State.begin_bus (op : Op) (handle : Handle) : (s.begin op handle).bus = s.bus := rfl
@[simp] theorem State.begin_outstanding (op : Op) (handle : Handle) : (s.begin op handle).outstanding = s.outstanding := rfl
@[simp] theorem State.begin_trace (op : Op) (handle : Handle) : (s.begin op handle).trace = s.trace := rfl
@[simp] theorem State.begin_schedule (op : Op) (handle : Handle) : (s.begin op handle).schedule = s.schedule := rfl
@[simp] theorem State.begin_clock (op : Op) (handle : Handle) : (s.begin op handle).clock = s.clock := rfl

/-! `State.complete` (R154) -/

@[simp] theorem State.complete_st : (s.complete).st = .idle := rfl
@[simp] theorem State.complete_op : (s.complete).op = s.op := rfl
@[simp] theorem State.complete_h : (s.complete).h = s.h := rfl
@[simp] theorem State.complete_s1 : (s.complete).s1 = s.s1 := rfl
@[simp] theorem State.complete_s2 : (s.complete).s2 = s.s2 := rfl
@[simp] theorem State.complete_pcnt : (s.complete).pcnt = s.pcnt := rfl
@[simp] theorem State.complete_res : (s.complete).res = .ok := rfl
@[simp] theorem State.complete_mode : (s.complete).mode = completedMode s.op := rfl
@[simp] theorem State.complete_dev : (s.complete).dev = s.dev := rfl
@[simp] theorem State.complete_par : (s.complete).par = s.par := rfl
@[simp] theorem State.complete_begun : (s.complete).begun = s.begun := rfl
@[simp] theorem State.complete_bus : (s.complete).bus = s.bus := rfl
@[simp] theorem State.complete_outstanding : (s.complete).outstanding = s.outstanding := rfl
@[simp] theorem State.complete_trace : (s.complete).trace = s.trace := rfl
@[simp] theorem State.complete_schedule : (s.complete).schedule = s.schedule := rfl
@[simp] theorem State.complete_clock : (s.complete).clock = s.clock := rfl

/-! `State.settle` (R19) -/

@[simp] theorem State.settle_st (d : Device) (i : Instr) (reply : Reply) : (s.settle d i reply).st = s.st := rfl
@[simp] theorem State.settle_op (d : Device) (i : Instr) (reply : Reply) : (s.settle d i reply).op = s.op := rfl
@[simp] theorem State.settle_h (d : Device) (i : Instr) (reply : Reply) : (s.settle d i reply).h = s.h := rfl
@[simp] theorem State.settle_s1 (d : Device) (i : Instr) (reply : Reply) : (s.settle d i reply).s1 = s.s1 := rfl
@[simp] theorem State.settle_s2 (d : Device) (i : Instr) (reply : Reply) : (s.settle d i reply).s2 = s.s2 := rfl
@[simp] theorem State.settle_pcnt (d : Device) (i : Instr) (reply : Reply) : (s.settle d i reply).pcnt = s.pcnt := rfl
@[simp] theorem State.settle_res (d : Device) (i : Instr) (reply : Reply) : (s.settle d i reply).res = s.res := rfl
@[simp] theorem State.settle_mode (d : Device) (i : Instr) (reply : Reply) : (s.settle d i reply).mode = s.mode := rfl
@[simp] theorem State.settle_dev (d : Device) (i : Instr) (reply : Reply) : (s.settle d i reply).dev = d := rfl
@[simp] theorem State.settle_par (d : Device) (i : Instr) (reply : Reply) : (s.settle d i reply).par = s.par := rfl
@[simp] theorem State.settle_begun (d : Device) (i : Instr) (reply : Reply) : (s.settle d i reply).begun = s.begun := rfl
@[simp] theorem State.settle_bus (d : Device) (i : Instr) (reply : Reply) : (s.settle d i reply).bus = s.bus := rfl
@[simp] theorem State.settle_outstanding (d : Device) (i : Instr) (reply : Reply) : (s.settle d i reply).outstanding = (s.outstanding && decide (s.bus.master = .other)) := rfl
@[simp] theorem State.settle_trace (d : Device) (i : Instr) (reply : Reply) : (s.settle d i reply).trace = ⟨s.bus.master, s.bus.handle, codeTx (encode i), codeK (encode i), reply⟩ :: s.trace := rfl
@[simp] theorem State.settle_schedule (d : Device) (i : Instr) (reply : Reply) : (s.settle d i reply).schedule = s.schedule := rfl
@[simp] theorem State.settle_clock (d : Device) (i : Instr) (reply : Reply) : (s.settle d i reply).clock = s.clock := rfl

/-! `State.withBus` (R200) -/

@[simp] theorem State.withBus_st (b : Bus) : (s.withBus b).st = s.st := rfl
@[simp] theorem State.withBus_op (b : Bus) : (s.withBus b).op = s.op := rfl
@[simp] theorem State.withBus_h (b : Bus) : (s.withBus b).h = s.h := rfl
@[simp] theorem State.withBus_s1 (b : Bus) : (s.withBus b).s1 = s.s1 := rfl
@[simp] theorem State.withBus_s2 (b : Bus) : (s.withBus b).s2 = s.s2 := rfl
@[simp] theorem State.withBus_pcnt (b : Bus) : (s.withBus b).pcnt = s.pcnt := rfl
@[simp] theorem State.withBus_res (b : Bus) : (s.withBus b).res = s.res := rfl
@[simp] theorem State.withBus_mode (b : Bus) : (s.withBus b).mode = s.mode := rfl
@[simp] theorem State.withBus_dev (b : Bus) : (s.withBus b).dev = s.dev := rfl
@[simp] theorem State.withBus_par (b : Bus) : (s.withBus b).par = s.par := rfl
@[simp] theorem State.withBus_begun (b : Bus) : (s.withBus b).begun = s.begun := rfl
@[simp] theorem State.withBus_bus (b : Bus) : (s.withBus b).bus = b := rfl
@[simp] theorem State.withBus_outstanding (b : Bus) : (s.withBus b).outstanding = s.outstanding := rfl
@[simp] theorem State.withBus_trace (b : Bus) : (s.withBus b).trace = s.trace := rfl
@[simp] theorem State.withBus_schedule (b : Bus) : (s.withBus b).schedule = s.schedule := rfl
@[simp] theorem State.withBus_clock (b : Bus) : (s.withBus b).clock = s.clock := rfl

/-! `State.commit` (R232) -/

@[simp] theorem State.commit_st : (s.commit).st = s.st := rfl
@[simp] theorem State.commit_op : (s.commit).op = s.op := rfl
@[simp] theorem State.commit_h : (s.commit).h = s.h := rfl
@[simp] theorem State.commit_s1 : (s.commit).s1 = s.s1 := rfl
@[simp] theorem State.commit_s2 : (s.commit).s2 = s.s2 := rfl
@[simp] theorem State.commit_pcnt : (s.commit).pcnt = s.pcnt := rfl
@[simp] theorem State.commit_res : (s.commit).res = s.res := rfl
@[simp] theorem State.commit_mode : (s.commit).mode = s.mode := rfl
@[simp] theorem State.commit_dev : (s.commit).dev = s.dev.commit s.par := rfl
@[simp] theorem State.commit_par : (s.commit).par = s.par := rfl
@[simp] theorem State.commit_begun : (s.commit).begun = s.begun := rfl
@[simp] theorem State.commit_bus : (s.commit).bus = s.bus := rfl
@[simp] theorem State.commit_outstanding : (s.commit).outstanding = s.outstanding := rfl
@[simp] theorem State.commit_trace : (s.commit).trace = s.trace := rfl
@[simp] theorem State.commit_schedule : (s.commit).schedule = s.schedule := rfl
@[simp] theorem State.commit_clock : (s.commit).clock = s.clock := rfl

/-! `State.wait` (R321) -/

@[simp] theorem State.wait_st : (s.wait).st = s.st := rfl
@[simp] theorem State.wait_op : (s.wait).op = s.op := rfl
@[simp] theorem State.wait_h : (s.wait).h = s.h := rfl
@[simp] theorem State.wait_s1 : (s.wait).s1 = s.s1 := rfl
@[simp] theorem State.wait_s2 : (s.wait).s2 = s.s2 := rfl
@[simp] theorem State.wait_pcnt : (s.wait).pcnt = s.pcnt := rfl
@[simp] theorem State.wait_res : (s.wait).res = s.res := rfl
@[simp] theorem State.wait_mode : (s.wait).mode = s.mode := rfl
@[simp] theorem State.wait_dev : (s.wait).dev = s.dev := rfl
@[simp] theorem State.wait_par : (s.wait).par = s.par := rfl
@[simp] theorem State.wait_begun : (s.wait).begun = s.begun := rfl
@[simp] theorem State.wait_bus : (s.wait).bus = s.bus := rfl
@[simp] theorem State.wait_outstanding : (s.wait).outstanding = s.active := rfl
@[simp] theorem State.wait_trace : (s.wait).trace = s.trace := rfl
@[simp] theorem State.wait_schedule : (s.wait).schedule = s.schedule := rfl
@[simp] theorem State.wait_clock : (s.wait).clock = s.clock := rfl

/-! `State.setBound` (R209) -/

@[simp] theorem State.setBound_st (n : Nat) : (s.setBound n).st = s.st := rfl
@[simp] theorem State.setBound_op (n : Nat) : (s.setBound n).op = s.op := rfl
@[simp] theorem State.setBound_h (n : Nat) : (s.setBound n).h = s.h := rfl
@[simp] theorem State.setBound_s1 (n : Nat) : (s.setBound n).s1 = s.s1 := rfl
@[simp] theorem State.setBound_s2 (n : Nat) : (s.setBound n).s2 = s.s2 := rfl
@[simp] theorem State.setBound_pcnt (n : Nat) : (s.setBound n).pcnt = s.pcnt := rfl
@[simp] theorem State.setBound_res (n : Nat) : (s.setBound n).res = s.res := rfl
@[simp] theorem State.setBound_mode (n : Nat) : (s.setBound n).mode = s.mode := rfl
@[simp] theorem State.setBound_dev (n : Nat) : (s.setBound n).dev = s.dev := rfl
@[simp] theorem State.setBound_par (n : Nat) : (s.setBound n).par = { s.par with pollBound := s.par.countBits n } := rfl
@[simp] theorem State.setBound_begun (n : Nat) : (s.setBound n).begun = s.begun := rfl
@[simp] theorem State.setBound_bus (n : Nat) : (s.setBound n).bus = s.bus := rfl
@[simp] theorem State.setBound_outstanding (n : Nat) : (s.setBound n).outstanding = s.outstanding := rfl
@[simp] theorem State.setBound_trace (n : Nat) : (s.setBound n).trace = s.trace := rfl
@[simp] theorem State.setBound_schedule (n : Nat) : (s.setBound n).schedule = s.schedule := rfl
@[simp] theorem State.setBound_clock (n : Nat) : (s.setBound n).clock = s.clock := rfl

/-! `State.resetBlock` (R300) -/

@[simp] theorem State.resetBlock_st (l : Leftover) : (s.resetBlock l).st = .idle := rfl
@[simp] theorem State.resetBlock_op (l : Leftover) : (s.resetBlock l).op = l.op := rfl
@[simp] theorem State.resetBlock_h (l : Leftover) : (s.resetBlock l).h = s.par.handleBits l.h := rfl
@[simp] theorem State.resetBlock_s1 (l : Leftover) : (s.resetBlock l).s1 = l.s1 := rfl
@[simp] theorem State.resetBlock_s2 (l : Leftover) : (s.resetBlock l).s2 = l.s2 := rfl
@[simp] theorem State.resetBlock_pcnt (l : Leftover) : (s.resetBlock l).pcnt = s.par.countBits l.pcnt := rfl
@[simp] theorem State.resetBlock_res (l : Leftover) : (s.resetBlock l).res = .none := rfl
@[simp] theorem State.resetBlock_mode (l : Leftover) : (s.resetBlock l).mode = .unknown := rfl
@[simp] theorem State.resetBlock_dev (l : Leftover) : (s.resetBlock l).dev = s.dev := rfl
@[simp] theorem State.resetBlock_par (l : Leftover) : (s.resetBlock l).par = s.par := rfl
@[simp] theorem State.resetBlock_begun (l : Leftover) : (s.resetBlock l).begun = s.begun := rfl
@[simp] theorem State.resetBlock_bus (l : Leftover) : (s.resetBlock l).bus = s.bus := rfl
@[simp] theorem State.resetBlock_outstanding (l : Leftover) : (s.resetBlock l).outstanding = false := rfl
@[simp] theorem State.resetBlock_trace (l : Leftover) : (s.resetBlock l).trace = s.trace := rfl
@[simp] theorem State.resetBlock_schedule (l : Leftover) : (s.resetBlock l).schedule = s.schedule := rfl
@[simp] theorem State.resetBlock_clock (l : Leftover) : (s.resetBlock l).clock = s.clock := rfl

/-! `State.advance` (one move consumed) -/

@[simp] theorem State.advance_st : (s.advance).st = s.st := rfl
@[simp] theorem State.advance_op : (s.advance).op = s.op := rfl
@[simp] theorem State.advance_h : (s.advance).h = s.h := rfl
@[simp] theorem State.advance_s1 : (s.advance).s1 = s.s1 := rfl
@[simp] theorem State.advance_s2 : (s.advance).s2 = s.s2 := rfl
@[simp] theorem State.advance_pcnt : (s.advance).pcnt = s.pcnt := rfl
@[simp] theorem State.advance_res : (s.advance).res = s.res := rfl
@[simp] theorem State.advance_mode : (s.advance).mode = s.mode := rfl
@[simp] theorem State.advance_dev : (s.advance).dev = s.dev := rfl
@[simp] theorem State.advance_par : (s.advance).par = s.par := rfl
@[simp] theorem State.advance_begun : (s.advance).begun = s.begun := rfl
@[simp] theorem State.advance_bus : (s.advance).bus = s.bus := rfl
@[simp] theorem State.advance_outstanding : (s.advance).outstanding = s.outstanding := rfl
@[simp] theorem State.advance_trace : (s.advance).trace = s.trace := rfl
@[simp] theorem State.advance_schedule : (s.advance).schedule = s.schedule.tail := rfl
@[simp] theorem State.advance_clock : (s.advance).clock = s.clock + 1 := rfl

/-! `State.pollsDone` reads PCNT and POLL_W alone -/

@[simp] theorem State.settle_pollsDone (d : Device) (i : Instr) (reply : Reply) :
    (s.settle d i reply).pollsDone = s.pollsDone := rfl
@[simp] theorem State.withBus_pollsDone (b : Bus) : (s.withBus b).pollsDone = s.pollsDone := rfl
@[simp] theorem State.advance_pollsDone : s.advance.pollsDone = s.pollsDone := rfl

end Sys2Proof.Machine
end

