-- ==== Sys2Proof/Laws/Ops.lean ====
section
/-! SUPPORT. One lemma per shared operation, saying everything it can do. -/

namespace Sys2Proof.Machine

/-! What the ports' widths carry. -/

theorem Params.handleBits_lt (p : Params) (handle : Handle) : p.handleBits handle < 2 ^ p.handleW :=
  Nat.mod_lt _ (Nat.two_pow_pos _)

theorem Params.countBits_lt (p : Params) (n : Nat) : p.countBits n < 2 ^ p.pollW :=
  Nat.mod_lt _ (Nat.two_pow_pos _)

theorem Params.handleBits_of_lt {p : Params} {handle : Handle} (h : handle < 2 ^ p.handleW) :
    p.handleBits handle = handle := Nat.mod_eq_of_lt h

theorem Params.countBits_of_lt {p : Params} {n : Nat} (h : n < 2 ^ p.pollW) : p.countBits n = n :=
  Nat.mod_eq_of_lt h

theorem State.pollsDone_eq {s : State} (h : s.pcnt + 1 < 2 ^ s.par.pollW) : s.pollsDone = s.pcnt + 1 :=
  Params.countBits_of_lt h

theorem State.pollsDone_le (s : State) : s.pollsDone ≤ s.pcnt + 1 := Nat.mod_le _ _

/-! The device's side of an exchange. -/

theorem Device.afterRead_eq (d : Device) (x : Draws) :
    d.afterRead x = { d with wel := if d.wel then x.wel else d.wel } := by
  cases d with
  | mk n1 n2 wel wip p1 p2 => cases wel <;> rfl

@[simp] theorem State.devAfterRead_n1 (s : State) : s.devAfterRead.n1 = s.dev.n1 := by
  unfold State.devAfterRead; split <;> simp [Device.afterRead_eq]
@[simp] theorem State.devAfterRead_n2 (s : State) : s.devAfterRead.n2 = s.dev.n2 := by
  unfold State.devAfterRead; split <;> simp [Device.afterRead_eq]
@[simp] theorem State.devAfterRead_wip (s : State) : s.devAfterRead.wip = s.dev.wip := by
  unfold State.devAfterRead; split <;> simp [Device.afterRead_eq]
@[simp] theorem State.devAfterRead_p1 (s : State) : s.devAfterRead.p1 = s.dev.p1 := by
  unfold State.devAfterRead; split <;> simp [Device.afterRead_eq]
@[simp] theorem State.devAfterRead_p2 (s : State) : s.devAfterRead.p2 = s.dev.p2 := by
  unfold State.devAfterRead; split <;> simp [Device.afterRead_eq]

@[simp] theorem State.devAfterWren_n1 (s : State) : s.devAfterWren.n1 = s.dev.n1 := by
  unfold State.devAfterWren; split <;> rfl
@[simp] theorem State.devAfterWren_n2 (s : State) : s.devAfterWren.n2 = s.dev.n2 := by
  unfold State.devAfterWren; split <;> rfl
@[simp] theorem State.devAfterWren_wip (s : State) : s.devAfterWren.wip = s.dev.wip := by
  unfold State.devAfterWren; split <;> rfl
@[simp] theorem State.devAfterWren_p1 (s : State) : s.devAfterWren.p1 = s.dev.p1 := by
  unfold State.devAfterWren; split <;> rfl
@[simp] theorem State.devAfterWren_p2 (s : State) : s.devAfterWren.p2 = s.dev.p2 := by
  unfold State.devAfterWren; split <;> rfl

@[simp] theorem State.devAfterWrsr_n1 (s : State) (a b : Byte) :
    (s.devAfterWrsr a b).n1 = s.dev.n1 := by
  unfold State.devAfterWrsr; split <;> [split <;> rfl; rfl]
@[simp] theorem State.devAfterWrsr_n2 (s : State) (a b : Byte) :
    (s.devAfterWrsr a b).n2 = s.dev.n2 := by
  unfold State.devAfterWrsr; split <;> [split <;> rfl; rfl]

/-- A Write Status leaves the device in one of three ways: accepted, WEL drawn, unchanged (R225, R227, R236). -/
theorem State.devAfterWrsr_cases (s : State) (a b : Byte) :
    (s.attached = true ∧ s.dev.wip = false ∧ s.dev.wel = true ∧ s.arrives = true ∧
        s.devAfterWrsr a b = s.dev.accept a b) ∨
      (s.dev.wip = false ∧ s.arrives = false ∧
        s.devAfterWrsr a b = { s.dev with wel := s.bus.draws.wel }) ∨
      s.devAfterWrsr a b = s.dev := by
  unfold State.devAfterWrsr
  split
  · split <;> simp_all
  · simp

/-! The block's side. -/

theorem State.start_cases (s : State) (op : Op) (h : Handle) :
    (s.st = .idle ∧ s.start op h = s.begin op h) ∨ (s.st ≠ .idle ∧ s.start op h = s) := by
  unfold State.start
  split <;> simp_all

/-- The POLL step ends in one of four ways (R182, R274). -/
theorem State.onPoll_cases (s : State) (got : Option Byte) :
    (got = none ∧ s.onPoll got = s.abort .transportError) ∨
      (∃ b, got = some b ∧ busyBit b = false ∧ s.onPoll got = s.complete) ∨
      (∃ b, got = some b ∧ busyBit b = true ∧ boundReached s.par.pollBound s.pollsDone = true ∧
        s.onPoll got = s.abort .deviceNotReady) ∨
      (∃ b, got = some b ∧ busyBit b = true ∧ boundReached s.par.pollBound s.pollsDone = false ∧
        s.onPoll got = { s with pcnt := s.pollsDone }) := by
  cases got with
  | none => simp [State.onPoll]
  | some b =>
    cases hb : busyBit b <;> cases hr : boundReached s.par.pollBound s.pollsDone <;>
      simp [State.onPoll, hb, hr]

theorem State.emits_eq_none_iff (s : State) : s.emits = none ↔ s.st = .idle := by
  unfold State.emits
  cases s.st <;> simp

theorem State.active_eq_false_iff (s : State) : s.active = false ↔ s.st = .idle := by
  simp [State.active]

/-- Reset either finds nothing outstanding or abandons the exchange of the block's state (R300, R302). -/
theorem takeReset_next {s t : State} {l : Leftover} {x : Draws} (hr : takeReset s l x = .next t) :
    ((s.outstanding = false ∨ s.emits = none) ∧ t = s.resetBlock l) ∨
      ∃ i u, s.outstanding = true ∧ s.emits = some i ∧
        u = s.withBus ⟨.block, s.h, { x with answer := .fail }⟩ ∧
        (isWriteType i && u.hitsBusy) = false ∧
        t = (u.settle (u.devAfter i) i .abandoned).resetBlock l := by
  unfold takeReset at hr
  split at hr
  · next i ho he =>
    right
    simp only at hr
    split at hr
    · cases hr
    · next hb =>
      cases hr
      exact ⟨i, _, ho, he, rfl, by simpa using hb, rfl⟩
  · next hne =>
    left
    cases hr
    refine ⟨?_, rfl⟩
    cases ho : s.outstanding with
    | false => exact .inl rfl
    | true =>
      cases he : s.emits with
      | none => exact .inr rfl
      | some i => exact absurd he (by simpa using hne i ho)

theorem takeBound_next {s t : State} {n : Nat} (hb : takeBound s n = .next t) :
    s.st = .idle ∧ s.begun = false ∧ t = s.setBound n := by
  unfold takeBound at hb
  split at hb
  · cases hb
  · next ha =>
    cases hb
    simp only [Bool.not_eq_true, Bool.or_eq_false_iff] at ha
    exact ⟨(State.active_eq_false_iff s).1 ha.1, ha.2, rfl⟩

end Sys2Proof.Machine
end

