-- ==== Sys2Proof/Laws/Exec.lean ====
section
/-! SUPPORT. One inversion lemma per meaning: everything it can do when it answers a next state. -/

namespace Sys2Proof.Machine

/-- The byte Read Status1 brings its issuer (R222, R74). -/
def gotStatus1 (s : State) : Option Byte := s.received (s.dev.status1 s.bus.draws)

/-- The byte Read Status2 brings its issuer (R223, R74). -/
def gotStatus2 (s : State) : Option Byte := s.received (s.dev.status2 s.bus.draws)

theorem execRdsr1_next {s t : State} (hx : execRdsr1 s = .next t) :
    (s.bus.master = .other ∧ t = s.settle s.devAfterRead .rdsr1 (readReply (gotStatus1 s))) ∨
      (s.bus.master = .block ∧ s.st = .rd1 ∧
        t = (s.settle s.devAfterRead .rdsr1 (readReply (gotStatus1 s))).onRd1 (gotStatus1 s)) ∨
      (s.bus.master = .block ∧ s.st = .poll ∧
        t = (s.settle s.devAfterRead .rdsr1 (readReply (gotStatus1 s))).onPoll (gotStatus1 s)) := by
  unfold execRdsr1 at hx
  simp only at hx
  split at hx <;> cases hx <;> simp_all [gotStatus1]

theorem execRdsr2_next {s t : State} (hx : execRdsr2 s = .next t) :
    (s.bus.master = .other ∧ t = s.settle s.devAfterRead .rdsr2 (readReply (gotStatus2 s))) ∨
      (s.bus.master = .block ∧ s.st = .rd2 ∧
        t = (s.settle s.devAfterRead .rdsr2 (readReply (gotStatus2 s))).onRd2 (gotStatus2 s)) := by
  unfold execRdsr2 at hx
  simp only at hx
  split at hx <;> cases hx <;> simp_all [gotStatus2]

theorem execWren_next {s t : State} (hx : execWren s = .next t) :
    s.hitsBusy = false ∧
      ((s.bus.master = .other ∧
          t = s.settle s.devAfterWren .wren (sendReply s.bus.draws.answer)) ∨
        (s.bus.master = .block ∧ s.st = .wren ∧
          t = (s.settle s.devAfterWren .wren (sendReply s.bus.draws.answer)).onWren
            s.bus.draws.answer)) := by
  unfold execWren at hx
  simp only at hx
  split at hx
  · split at hx <;> cases hx
    simp_all
  · split at hx <;> cases hx
    simp_all
  · cases hx

theorem execWrsr_next {s t : State} {a b : Byte} (hx : execWrsr a b s = .next t) :
    s.hitsBusy = false ∧
      ((s.bus.master = .other ∧
          t = s.settle (s.devAfterWrsr a b) (.wrsr a b) (sendReply s.bus.draws.answer)) ∨
        (s.bus.master = .block ∧ s.emits = some (.wrsr a b) ∧
          t = (s.settle (s.devAfterWrsr a b) (.wrsr a b) (sendReply s.bus.draws.answer)).onWrsr
            s.bus.draws.answer)) := by
  unfold execWrsr at hx
  simp only at hx
  split at hx
  · split at hx <;> cases hx
    simp_all
  · split at hx
    · split at hx <;> cases hx
      simp_all
    · cases hx

/-- A state that emits Write Status is WRSR, with the operands of R104. -/
theorem State.emits_wrsr_iff (s : State) (a b : Byte) :
    s.emits = some (.wrsr a b) ↔ s.st = .wrsr ∧ a = s.s1 ∧ b = w2 s.op s.s2 := by
  unfold State.emits
  cases s.st <;> simp [eq_comm]

/-! The FSM's transitions on an answered exchange touch neither the device, the configuration nor the trace. -/

theorem State.onRead_dev (u : State) (got : Option Byte) :
    (u.onRd1 got).dev = u.dev ∧ (u.onRd2 got).dev = u.dev ∧ (u.onPoll got).dev = u.dev := by
  refine ⟨by cases got <;> rfl, by cases got <;> rfl, ?_⟩
  rcases u.onPoll_cases got with ⟨_, h⟩ | ⟨_, _, _, h⟩ | ⟨_, _, _, _, h⟩ | ⟨_, _, _, _, h⟩ <;> simp [h]

theorem State.onRead_par (u : State) (got : Option Byte) :
    (u.onRd1 got).par = u.par ∧ (u.onRd2 got).par = u.par ∧ (u.onPoll got).par = u.par := by
  refine ⟨by cases got <;> rfl, by cases got <;> rfl, ?_⟩
  rcases u.onPoll_cases got with ⟨_, h⟩ | ⟨_, _, _, h⟩ | ⟨_, _, _, _, h⟩ | ⟨_, _, _, _, h⟩ <;> simp [h]

theorem State.onRead_trace (u : State) (got : Option Byte) :
    (u.onRd1 got).trace = u.trace ∧ (u.onRd2 got).trace = u.trace ∧
      (u.onPoll got).trace = u.trace := by
  refine ⟨by cases got <;> rfl, by cases got <;> rfl, ?_⟩
  rcases u.onPoll_cases got with ⟨_, h⟩ | ⟨_, _, _, h⟩ | ⟨_, _, _, _, h⟩ | ⟨_, _, _, _, h⟩ <;> simp [h]

theorem State.onWrite_dev (u : State) (a : Answer) :
    (u.onWren a).dev = u.dev ∧ (u.onWrsr a).dev = u.dev := by cases a <;> exact ⟨rfl, rfl⟩

theorem State.onWrite_par (u : State) (a : Answer) :
    (u.onWren a).par = u.par ∧ (u.onWrsr a).par = u.par := by cases a <;> exact ⟨rfl, rfl⟩

theorem State.onWrite_trace (u : State) (a : Answer) :
    (u.onWren a).trace = u.trace ∧ (u.onWrsr a).trace = u.trace := by cases a <;> exact ⟨rfl, rfl⟩

theorem State.start_environment (u : State) (op : Op) (h : Handle) :
    (u.start op h).dev = u.dev ∧ (u.start op h).par = u.par ∧ (u.start op h).trace = u.trace := by
  rcases u.start_cases op h with ⟨_, he⟩ | ⟨_, he⟩ <;> simp [he]

end Sys2Proof.Machine
end

