-- ==== Sys2Proof/Laws/PerInstr.lean ====
section
/-! SUPPORT. A statement for all instructions, one lemma per constructor: what an instruction's form is
decoded to is the instruction (30_encoding R102, R107, R113). -/

namespace Sys2Proof.Laws.RoundTrip

/-- Decoding the form of `i` gives `i` back. -/
def Statement (i : Instr) : Prop := decode (encode i) = .ok i

theorem rdsr1 : Statement .rdsr1 := rfl
theorem rdsr2 : Statement .rdsr2 := rfl
theorem wren : Statement .wren := rfl
theorem wrsr (status1 status2 : Byte) : Statement (.wrsr status1 status2) := rfl
theorem enterQuad (handle : Handle) : Statement (.enterQuad handle) := rfl
theorem exitQuad (handle : Handle) : Statement (.exitQuad handle) := rfl

end Sys2Proof.Laws.RoundTrip
end

