-- ==== Sys2Proof/Laws/Step.lean ====
section
/-! SUPPORT. Everything one step can do when it answers a next state. -/

namespace Sys2Proof.Machine

/-- What the block emits decodes to what it means to emit. -/
theorem decode_of_emits {s : State} {i : Instr} (he : s.emits = some i) :
    decode (encode i) = .ok i := by
  unfold State.emits at he
  split at he <;> cases he
  · exact Laws.RoundTrip.rdsr1
  · exact Laws.RoundTrip.rdsr2
  · exact Laws.RoundTrip.wren
  · exact Laws.RoundTrip.wrsr _ _
  · exact Laws.RoundTrip.rdsr1

/-- The operation a start's select bit names (R106). -/
def startedOp (op : BitVec 1) : Op := if op = 0 then .enterQuad else .exitQuad

theorem exec_decodeHost (op : BitVec 1) (h : Handle) (s : State) :
    exec (decodeHost op h) s = .next (s.start (startedOp op) h) := by
  unfold decodeHost startedOp
  split <;> rfl

/-- Everything a step can do, by the environment's move. -/
theorem step_cases {s t : State} (hs : step s = .next t) :
    (∃ op h, s.nextEvent = .start op h ∧ t = s.advance.start (startedOp op) h) ∨
      (∃ l x, s.nextEvent = .reset l x ∧ takeReset s.advance l x = .next t) ∨
      (∃ n, s.nextEvent = .setBound n ∧ s.st = .idle ∧ s.begun = false ∧ t = s.advance.setBound n) ∨
      (∃ x, s.nextEvent = .transport x ∧ s.st = .idle ∧ t = s.advance) ∨
      (∃ x i, s.nextEvent = .transport x ∧ s.emits = some i ∧
        exec i (s.advance.withBus ⟨.block, s.h, x⟩) = .next t) ∨
      (s.nextEvent = .silence ∧ t = s.advance.wait) ∨
      (s.nextEvent = .commit ∧ t = s.advance.commit) ∨
      (∃ h tx k x i, s.nextEvent = .other h tx k x ∧ decodeWire tx k = .ok i ∧
        exec i (s.advance.withBus ⟨.other, s.par.handleBits h, x⟩) = .next t) := by
  unfold step fetch at hs
  cases he : s.nextEvent with
  | start op h =>
    simp only [he, decode, exec_decodeHost] at hs
    cases hs
    exact .inl ⟨op, h, rfl, rfl⟩
  | reset l x =>
    simp only [he] at hs
    exact .inr (.inl ⟨l, x, rfl, hs⟩)
  | setBound n =>
    simp only [he] at hs
    obtain ⟨hi, hb, rfl⟩ := takeBound_next hs
    exact .inr (.inr (.inl ⟨n, rfl, hi, hb, rfl⟩))
  | transport x =>
    cases hm : s.emits with
    | none =>
      simp only [he, hm] at hs
      cases hs
      exact .inr (.inr (.inr (.inl ⟨x, rfl, (State.emits_eq_none_iff s).1 hm, rfl⟩)))
    | some i =>
      simp only [he, hm, decode_of_emits hm] at hs
      exact .inr (.inr (.inr (.inr (.inl ⟨x, i, rfl, rfl, hs⟩))))
  | silence =>
    simp only [he] at hs
    cases hs
    exact .inr (.inr (.inr (.inr (.inr (.inl ⟨rfl, rfl⟩)))))
  | commit =>
    simp only [he] at hs
    cases hs
    exact .inr (.inr (.inr (.inr (.inr (.inr (.inl ⟨rfl, rfl⟩))))))
  | other h tx k x =>
    cases hd : decodeWire tx k with
    | error why =>
      simp only [he, decode, hd] at hs
      cases hs
    | ok i =>
      simp only [he, decode, hd] at hs
      exact .inr (.inr (.inr (.inr (.inr (.inr (.inr ⟨h, tx, k, x, i, rfl, hd, hs⟩))))))

/-- The wire decoder yields wire commands only. -/
theorem decodeWire_not_hostop {tx : List Byte} {k : Nat} {i : Instr} (hd : decodeWire tx k = .ok i) :
    i = .rdsr1 ∨ i = .rdsr2 ∨ i = .wren ∨ ∃ a b, i = .wrsr a b := by
  unfold decodeWire at hd
  split at hd
  · cases hd
  · split at hd
    · split at hd <;> cases hd
      simp
    · split at hd
      · split at hd <;> cases hd
        simp
      · split at hd
        · split at hd <;> cases hd
          simp
        · split at hd
          · split at hd <;> cases hd
            simp
          · cases hd

/-- An instruction's effect on the device is its `devAfter`; the configuration is kept. -/
theorem exec_dev {i : Instr} {s t : State} (hx : exec i s = .next t) :
    t.dev = s.devAfter i ∧ t.par = s.par := by
  cases i with
  | rdsr1 =>
    rcases execRdsr1_next hx with ⟨_, rfl⟩ | ⟨_, _, rfl⟩ | ⟨_, _, rfl⟩ <;>
      simp [State.onRead_dev, State.onRead_par, State.devAfter]
  | rdsr2 =>
    rcases execRdsr2_next hx with ⟨_, rfl⟩ | ⟨_, _, rfl⟩ <;>
      simp [State.onRead_dev, State.onRead_par, State.devAfter]
  | wren =>
    rcases execWren_next hx with ⟨_, ⟨_, rfl⟩ | ⟨_, _, rfl⟩⟩ <;>
      simp [State.onWrite_dev, State.onWrite_par, State.devAfter]
  | wrsr a b =>
    rcases execWrsr_next hx with ⟨_, ⟨_, rfl⟩ | ⟨_, _, rfl⟩⟩ <;>
      simp [State.onWrite_dev, State.onWrite_par, State.devAfter]
  | enterQuad h =>
    simp only [exec, execEnterQuad, Host.Outcome.next.injEq] at hx
    subst hx
    simp [State.start_environment, State.devAfter]
  | exitQuad h =>
    simp only [exec, execExitQuad, Host.Outcome.next.injEq] at hx
    subst hx
    simp [State.start_environment, State.devAfter]

/-- No instruction changes a stored byte: they change at commit. -/
theorem State.devAfter_stored (s : State) (i : Instr) (l : Loc) :
    (s.devAfter i).stored l = s.dev.stored l := by
  cases i <;> cases l <;> simp [State.devAfter, Device.stored]

/-- The rows of R151 for an exchange `i` of the block that came to `r`: failed; advanced along the line;
completed; stopped at the bound; polls on. -/
def Row (s t : State) (i : Instr) (r : Reply) : Prop :=
  (r = .fail ∧ t.res = .transportError ∧ t.mode = .unknown ∧ t.st = .idle) ∨
    (r ≠ .fail ∧ s.st ≠ .poll ∧ t.res = s.res ∧ t.mode = s.mode ∧
      (s.st, t.st) ∈ [(St.rd1, St.rd2), (.rd2, .wren), (.wren, .wrsr), (.wrsr, .poll)]) ∨
    (s.st = .poll ∧ i = .rdsr1 ∧ ∃ b, r = .ok [b] ∧ busyBit b = false ∧
      t.res = .ok ∧ t.mode = completedMode s.op ∧ t.st = .idle) ∨
    (s.st = .poll ∧ i = .rdsr1 ∧ ∃ b, r = .ok [b] ∧ busyBit b = true ∧
      boundReached s.par.pollBound s.pollsDone = true ∧
      t.res = .deviceNotReady ∧ t.mode = .unknown ∧ t.st = .idle) ∨
    (s.st = .poll ∧ i = .rdsr1 ∧ ∃ b, r = .ok [b] ∧ busyBit b = true ∧
      boundReached s.par.pollBound s.pollsDone = false ∧
      t.res = s.res ∧ t.mode = s.mode ∧ t.st = .poll ∧ t.pcnt = s.pollsDone)

/-- A wire command of another user does not touch the block's ST, RES and MODE; one of the block is a row. -/
theorem exec_row {i : Instr} {s t : State} (hx : exec i s = .next t)
    (hi : ∀ h, i ≠ .enterQuad h ∧ i ≠ .exitQuad h) :
    (s.bus.master = .other ∧ t.res = s.res ∧ t.mode = s.mode ∧ t.st = s.st ∧
        ∃ x, t.trace = x :: s.trace ∧ x.master = .other) ∨
      (s.bus.master = .block ∧ s.emits = some i ∧ ∃ r,
        t.trace = ⟨.block, s.bus.handle, codeTx (encode i), codeK (encode i), r⟩ :: s.trace ∧
          Row s t i r) := by
  unfold Row
  cases i with
  | rdsr1 =>
    rcases execRdsr1_next hx with ⟨hm, rfl⟩ | ⟨hm, hs, rfl⟩ | ⟨hm, hs, rfl⟩
    · simp [hm]
    · right
      refine ⟨hm, by simp [State.emits, hs], _, by simp [State.onRead_trace, hm]; rfl, ?_⟩
      cases hg : gotStatus1 s <;> simp [State.onRd1, readReply, hs]
    · right
      refine ⟨hm, by simp [State.emits, hs], _, by simp [State.onRead_trace, hm]; rfl, ?_⟩
      rcases (s.settle s.devAfterRead .rdsr1 (readReply (gotStatus1 s))).onPoll_cases (gotStatus1 s) with
        ⟨g, h⟩ | ⟨b, g, hb, h⟩ | ⟨b, g, hb, hr, h⟩ | ⟨b, g, hb, hr, h⟩
      · rw [h, g]
        simp [readReply]
      · rw [h, g]
        simp [readReply, hs, hb]
      · simp only [State.settle_par, State.settle_pollsDone] at hr
        rw [h, g]
        simp [readReply, hs, hb, hr]
      · simp only [State.settle_par, State.settle_pollsDone] at hr
        rw [h, g]
        simp [readReply, hs, hb, hr]
  | rdsr2 =>
    rcases execRdsr2_next hx with ⟨hm, rfl⟩ | ⟨hm, hs, rfl⟩
    · simp [hm]
    · right
      refine ⟨hm, by simp [State.emits, hs], _, by simp [State.onRead_trace, hm]; rfl, ?_⟩
      cases hg : gotStatus2 s <;> simp [State.onRd2, readReply, hs]
  | wren =>
    rcases execWren_next hx with ⟨_, ⟨hm, rfl⟩ | ⟨hm, hs, rfl⟩⟩
    · simp [hm]
    · right
      refine ⟨hm, by simp [State.emits, hs], _, by simp [State.onWrite_trace, hm]; rfl, ?_⟩
      cases ha : s.bus.draws.answer <;> simp [State.onWren, sendReply, hs]
  | wrsr a b =>
    rcases execWrsr_next hx with ⟨_, ⟨hm, rfl⟩ | ⟨hm, he, rfl⟩⟩
    · simp [hm]
    · have hs := ((s.emits_wrsr_iff a b).1 he).1
      right
      refine ⟨hm, he, _, by simp [State.onWrite_trace, hm]; rfl, ?_⟩
      cases ha : s.bus.draws.answer <;> simp [State.onWrsr, sendReply, hs]
  | enterQuad h => exact absurd rfl (hi h).1
  | exitQuad h => exact absurd rfl (hi h).2

theorem emits_not_hostop {s : State} {i : Instr} (he : s.emits = some i) :
    ∀ h, i ≠ .enterQuad h ∧ i ≠ .exitQuad h := by
  intro h
  constructor <;> (rintro rfl; revert he; unfold State.emits; cases s.st <;> simp)

theorem decodeWire_ne_hostop {tx : List Byte} {k : Nat} {i : Instr} (hd : decodeWire tx k = .ok i) :
    ∀ h, i ≠ .enterQuad h ∧ i ≠ .exitQuad h := by
  intro h
  rcases decodeWire_not_hostop hd with rfl | rfl | rfl | ⟨a, b, rfl⟩ <;> simp

/-- What a step does to ST, RES and MODE: nothing; a start from IDLE; a reset; or a row of R151. -/
theorem step_row {s t : State} (hs : step s = .next t) :
    (t.res = s.res ∧ t.mode = s.mode ∧ t.st = s.st ∧ ∀ x, s.nextEvent = .transport x → s.st = .idle) ∨
      (s.st = .idle ∧ t.st = .rd1 ∧ t.res = .none ∧ t.mode = .unknown ∧
        ∀ x, s.nextEvent ≠ .transport x) ∨
      (t.st = .idle ∧ t.res = .none ∧ t.mode = .unknown ∧ ∀ x, s.nextEvent ≠ .transport x) ∨
      ∃ i r, s.emits = some i ∧
        t.trace = ⟨.block, s.h, codeTx (encode i), codeK (encode i), r⟩ :: s.trace ∧ Row s t i r := by
  rcases step_cases hs with ⟨o, h, he, rfl⟩ | ⟨l, x, he, hr⟩ | ⟨n, he, hi, _, rfl⟩ | ⟨_, _, hi, rfl⟩ |
    ⟨x, i, _, hm, hx⟩ | ⟨he, rfl⟩ | ⟨he, rfl⟩ | ⟨_, _, _, _, i, he, hd, hx⟩
  · rcases s.advance.start_cases (startedOp o) h with ⟨hi, h⟩ | ⟨_, h⟩
    · right
      left
      simp only [State.advance_st] at hi
      simp [h, hi, he]
    · simp [h, he]
  · rcases takeReset_next hr with ⟨_, rfl⟩ | ⟨i, u, _, hem, rfl, _, rfl⟩ <;> simp [he]
  · simp [he]
  · simp [hi]
  · rcases exec_row hx (emits_not_hostop hm) with ⟨hb, _⟩ | ⟨_, hem, r, htr, h⟩
    · simp at hb
    · exact .inr (.inr (.inr ⟨i, r, hm, htr, h⟩))
  · simp [he]
  · simp [he]
  · rcases exec_row hx (decodeWire_ne_hostop hd) with ⟨_, h1, h2, h3, _⟩ | ⟨hb, _⟩
    · left
      simpa [he] using ⟨h1, h2, h3⟩
    · simp at hb

end Sys2Proof.Machine
end

