-- ==== Sys2Proof/Tests/Slice0.lean ====
section
/-! SUPPORT. The model's own tests: well-formedness and decoding by words written out from the encodings,
single steps taken from the vectors of spec/95_test_vectors.md, and for every statement with hypotheses a
witness that meets them. Expected values are the spec's. -/

namespace Sys2Proof.Tests

open Sys2Proof Sys2Proof.Machine

/-! ## Helpers -/

/-- The next state of an outcome, if there is one. -/
def nextOf : Result → Option State
  | .next t => some t
  | .fault _ => none
  | .refused _ => none

/-- The refusal of an outcome, if there is one. -/
def refusalOf : Result → Option Refusal
  | .next _ => none
  | .fault _ => none
  | .refused r => some r

/-- The fault of an outcome, if there is one. -/
def faultOf : Result → Option Fault
  | .next _ => none
  | .fault f => some f
  | .refused _ => none

def okWith (b : Byte) : Draws := { answer := .ok, byte := b, wel := false, arrived := false }
def failed : Draws := { answer := .fail, byte := 0, wel := false, arrived := false }
def failedArrived : Draws := { answer := .fail, byte := 0, wel := true, arrived := true }

/-- A quiescent device with the pair of vector S2 and P1. -/
def quiet : Device := { n1 := 0xA5, n2 := 0xF8, wel := false, wip := false, p1 := 0, p2 := 0 }
/-- The device of B5 in its write cycle. -/
def cycling : Device := { quiet with wip := true, p1 := 0xA4, p2 := 0xFA }
/-- The device of B5 after a Write Enable. -/
def enabled : Device := { quiet with wel := true }

/-- The block in `st` with device `d` and the exchange of its own on the device's link. -/
def inState (st : St) (op : Op) (d : Device) (x : Draws) : State :=
  { State.reset with
    st := st, op := op, s1 := 0xA4, s2 := 0xF8, dev := d, bus := ⟨.block, 0, x⟩ }

/-- A block with HANDLE_W = 8 and POLL_W = 4, an instance other than the defaults of R9. -/
def wide (s : State) : State := { s with par := { s.par with handleW := 8, pollW := 4 } }

/-- With this bound. -/
def bounded (n : Nat) (s : State) : State := { s with par := { s.par with pollBound := n } }

/-- On a link that is not the device's, where a read brings the draw. -/
def onOtherLink (st : St) (op : Op) (x : Draws) : State :=
  { wide (inState st op quiet x) with h := 7, bus := ⟨.block, 7, x⟩ }

/-- Another user's exchange on the device's link. -/
def foreign (d : Device) (x : Draws) : State :=
  { State.reset with dev := d, bus := ⟨.other, 0, x⟩ }

/-- The block in POLL at count `n` with bound `bound`. -/
def polling (op : Op) (n bound : Nat) (d : Device) (x : Draws) : State :=
  { bounded bound (inState .poll op d x) with pcnt := n }

/-- With these moves ahead. -/
def ahead (s : State) (moves : List Event) : State := { s with schedule := moves }

/-- Four answered exchanges. -/
def fourAnswers : List Event :=
  [.transport (okWith 0x55), .transport (okWith 0x66), .transport (okWith 0), .transport (okWith 0)]

/-- A whole operation with one busy poll, which reads 0xFF. -/
def wholeOperation (op : BitVec 1) : List Event :=
  .start op 0 :: fourAnswers ++ [.transport (okWith 0xFF), .commit, .transport (okWith 0)]

/-! ## Well-formedness -/

theorem test_wellFormed_shapes :
    Code.wellFormed (.xchg [0x05] 1) = true ∧ Code.wellFormed (.xchg [0x06] 0) = true ∧
      Code.wellFormed (.xchg [0x01, 0xA4, 0xFA] 0) = true ∧ Code.wellFormed (.hostop 1 0) = true := by
  decide

theorem test_illFormed_lengths_refused :
    Code.wellFormed (.xchg [] 1) = false ∧ Code.wellFormed (.xchg [0x01, 0xA4] 0) = false ∧
      Code.wellFormed (.xchg [0x01, 0xA4, 0xFA, 0x00] 0) = false := by decide

theorem test_illFormed_receives_refused :
    Code.wellFormed (.xchg [0x05] 2) = false ∧ Code.wellFormed (.xchg [0x01, 0xA4, 0xFA] 1) = false := by
  decide

theorem test_illFormed_handle_refused :
    Instr.wellFormed 3 (.enterQuad 8) = false ∧ Instr.wellFormed 3 (.exitQuad 8) = false ∧
      Instr.wellFormed 0 (.exitQuad 1) = false ∧ Instr.wellFormed 3 (.enterQuad 7) = true ∧
      Instr.wellFormed 0 (.wrsr 0xFF 0xFF) = true := by decide

theorem test_illegal_masks_refused :
    legalMasks 0xFF 0xFF = false ∧ legalMasks 0xFE 0xFD = false ∧ legalMasks 0x7C 0x0E = true := by decide

/-! ## Decoding: words written out from 30_encoding R102, R106, R107 -/

theorem test_decode_rdsr1 : decode (.xchg [0b00000101] 1) = .ok .rdsr1 := rfl
theorem test_decode_rdsr2 : decode (.xchg [0b00110101] 1) = .ok .rdsr2 := rfl
theorem test_decode_wren : decode (.xchg [0b00000110] 0) = .ok .wren := rfl
theorem test_decode_wrsr :
    decode (.xchg [0b00000001, 0b10100100, 0b11111010] 0) = .ok (.wrsr 0xA4 0xFA) := rfl
theorem test_decode_enterQuad : decode (.hostop 0 0b00000011) = .ok (.enterQuad 3) := rfl
theorem test_decode_exitQuad : decode (.hostop 1 0b10000000) = .ok (.exitQuad 128) := rfl

theorem test_decode_rejects_by_name :
    decode (.xchg [] 0) = .error .noBytes ∧ decode (.xchg [0x9F] 3) = .error (.unknownOpcode 0x9F) ∧
      decode (.xchg [0x05] 0) = .error (.wrongShape 0x05 1 0) ∧
      decode (.xchg [0x01, 0xA4] 0) = .error (.wrongShape 0x01 2 0) := ⟨rfl, rfl, rfl, rfl⟩

theorem test_table_words :
    decodeTableWord 8 0b00000101 = some .rdsr1 ∧ decodeTableWord 8 0b00110101 = some .rdsr2 ∧
      decodeTableWord 8 0b00000110 = some .wren ∧
      decodeTableWord 24 0b000000011010010011111010 = some (.wrsr 0xA4 0xFA) ∧
      decodeTableWord 8 0 = some (.enterQuad 0) ∧ decodeTableWord 8 1 = some (.exitQuad 0) := by decide

/-- No two rows of the opcode table accept one word. -/
theorem test_rows_do_not_overlap :
    wireRows.Pairwise (fun r q => r.width ≠ q.width ∨ r.pattern &&& q.mask ≠ q.pattern &&& r.mask) := by
  decide

/-- A step runs the word that withFetchWord places. -/
theorem test_fetch_runs_the_word :
    ((nextOf (step (State.reset.withFetchWord 8 0x06))).map (fun t => t.dev.wel) = some true) ∧
      ((nextOf (step (State.reset.withFetchWord 8 1))).map (fun t => (t.st, t.op)) = some (.rd1, .exitQuad)) := by
  decide

/-! ## Single steps from the vectors -/

/-- B1: RD1, `> 05 < a4` from a device with N1 = 0xA5. -/
theorem test_rdsr1_in_rd1 :
    (nextOf (exec .rdsr1 (inState .rd1 .enterQuad quiet (okWith 0)))).map (fun t => (t.s1, t.st, t.res)) =
      some (0xA4, .rd2, .none) := by decide

/-- B4: the third busy poll of a bound of 3. -/
theorem test_rdsr1_in_poll_at_bound :
    (nextOf (exec .rdsr1 (polling .exitQuad 2 3 cycling (okWith 0x00)))).map (fun t => (t.st, t.res, t.mode)) =
      some (.idle, .deviceNotReady, .unknown) := by decide

/-- B1: RD2, `> 35 < f8`. -/
theorem test_rdsr2_in_rd2 :
    (nextOf (exec .rdsr2 (inState .rd2 .enterQuad quiet (okWith 0)))).map (fun t => (t.s2, t.st)) =
      some (0xF8, .wren) := by decide

/-- B1: RD2, `> 35 !`. -/
theorem test_rdsr2_fails :
    (nextOf (exec .rdsr2 (inState .rd2 .enterQuad quiet failed))).map (fun t => (t.s2, t.st, t.res, t.mode)) =
      some (0xF8, .idle, .transportError, .unknown) := by decide

/-- B2 and B5: WREN, `> 06`. -/
theorem test_wren_in_wren :
    (nextOf (exec .wren (inState .wren .enterQuad quiet (okWith 0)))).map (fun t => (t.st, t.dev.wel)) =
      some (.wrsr, true) := by decide

/-- B5: `> 06` at a busy device is not settled: the model refuses the run. -/
theorem test_wren_busy_refused :
    refusalOf (exec .wren (foreign cycling (okWith 0))) = some .deviceBusy := by decide

/-- B2: WRSR, OP = 0, S1 = 0xA4, S2 = 0xF8, `> 01 a4 fa`; B5: the device latches the pair, N2 still 0xF8. -/
theorem test_wrsr_in_wrsr :
    (nextOf (exec (.wrsr 0xA4 0xFA) (inState .wrsr .enterQuad enabled (okWith 0)))).map
        (fun t => (t.st, t.pcnt, t.dev)) =
      some (.poll, 0, { cycling with wip := true }) := by decide

/-- B5: a Write Status that is not enabled is silently ignored. -/
theorem test_wrsr_ignored :
    (nextOf (exec (.wrsr 0xA4 0xFA) (foreign quiet (okWith 0)))).map (fun t => t.dev) = some quiet := by decide

/-- B8: IDLE with RES = TRANSPORT_ERROR, start with op = 0. -/
theorem test_enterQuad_from_idle :
    (nextOf (exec (.enterQuad 0) { inState .idle .exitQuad quiet failed with res := .transportError })).map
        (fun t => (t.op, t.res, t.mode, t.st, t.trace)) =
      some (.enterQuad, .none, .unknown, .rd1, []) := by decide

/-- B8: IDLE with RES = OK and MODE = QUAD, start with op = 1. -/
theorem test_exitQuad_from_idle :
    (nextOf (exec (.exitQuad 5) { wide (inState .idle .enterQuad quiet failed) with res := .ok, mode := .quad })).map
        (fun t => (t.op, t.h, t.res, t.mode, t.st)) =
      some (.exitQuad, 5, .none, .unknown, .rd1) := by decide

/-- R34, R200: a port of HANDLE_W = 8 carries a handle modulo 256, one of HANDLE_W = 0 only 0. -/
theorem test_handle_cut_to_its_width :
    (nextOf (exec (.enterQuad 0x1FE) (wide (inState .idle .enterQuad quiet failed)))).map (·.h) = some 0xFE ∧
      (nextOf (exec (.enterQuad 5) (inState .idle .enterQuad quiet failed))).map (·.h) = some 0 := by decide

/-- B8: a start with op = 1 while ST = WRSR changes nothing. -/
theorem test_exitQuad_while_active :
    nextOf (exec (.exitQuad 5) (inState .wrsr .enterQuad quiet failed)) =
      some (inState .wrsr .enterQuad quiet failed) := by decide

/-- B5: commit of PEND = (0x01, 0x00) over (0xA5, 0xF8) with the default masks. -/
theorem test_commit_merges :
    (nextOf (step (ahead (foreign { cycling with p1 := 0x01, p2 := 0x00 } failed) [.commit]))).map
        (fun t => (t.dev.n1, t.dev.n2, t.dev.wip)) =
      some (0x01, 0x00, false) := by decide

/-- B8: reset in POLL: the device keeps WIP = 1. -/
theorem test_reset_in_poll :
    (nextOf (step (ahead (polling .enterQuad 5 0 cycling failed) [.reset default failed]))).map
        (fun t => (t.st, t.res, t.mode, t.dev)) =
      some (.idle, .none, .unknown, cycling) := by decide

/-! ## Witnesses: for each statement with hypotheses, a state and operands that meet them -/

theorem test_witness_StartBeginsOperation : (inState .idle .enterQuad quiet failed).st = .idle := by decide

theorem test_witness_StartWhileActiveIsIgnored :
    (inState .rd1 .enterQuad quiet failed).st ≠ .idle ∧ (inState .poll .enterQuad quiet failed).st ≠ .idle := by
  decide

theorem test_witness_HostOperationsFrame :
    exec (.enterQuad 1) State.reset = .next (State.reset.begin .enterQuad 1) ∧
      exec (.exitQuad 1) (inState .poll .enterQuad quiet failed) = .next (inState .poll .enterQuad quiet failed) :=
  ⟨rfl, rfl⟩

theorem test_witness_StepRunsTheDecodedInstruction_start :
    (ahead State.reset [.start 1 3]).nextEvent = .start 1 3 ∧ decode (.hostop 1 3) = .ok (.exitQuad 3) :=
  ⟨rfl, rfl⟩

theorem test_witness_StepRunsTheDecodedInstruction_block :
    (ahead (inState .rd2 .enterQuad quiet failed) [.transport failed]).nextEvent = .transport failed ∧
      (ahead (inState .rd2 .enterQuad quiet failed) [.transport failed]).emits = some .rdsr2 ∧
      decode (encode .rdsr2) = .ok .rdsr2 := ⟨rfl, rfl, rfl⟩

theorem test_witness_StepRunsTheDecodedInstruction_other :
    (ahead State.reset [.other 0 [0x01, 0x00, 0xFF] 0 failed]).nextEvent = .other 0 [0x01, 0x00, 0xFF] 0 failed ∧
      decode (.xchg [0x01, 0x00, 0xFF] 0) = .ok (.wrsr 0x00 0xFF) := ⟨rfl, rfl⟩

theorem test_witness_EachStateEmitsItsCommand :
    ∀ st : St, (ahead (inState st .exitQuad quiet failed) [.transport failed]).nextEvent = .transport failed ∧
      (ahead (inState st .exitQuad quiet failed) [.transport failed]).st = st :=
  fun _ => ⟨rfl, rfl⟩

theorem test_witness_UnknownCommandIsRefused :
    (ahead State.reset [.other 0 [0x9F] 3 failed]).nextEvent = .other 0 [0x9F] 3 failed ∧
      decode (.xchg [0x9F] 3) = .error (.unknownOpcode 0x9F) := ⟨rfl, rfl⟩

theorem test_witness_SilenceLeavesTheBlockWaiting :
    (ahead (inState .rd1 .enterQuad quiet failed) [.silence]).nextEvent = .silence ∧
      (nextOf (step (ahead (inState .rd1 .enterQuad quiet failed) [.silence]))).map (fun t => t.outstanding) =
        some true := ⟨rfl, by decide⟩

theorem test_witness_CommandsNotEmittedAreStuck :
    (inState .idle .enterQuad quiet failed).bus.master = .block ∧
      faultOf (exec .rdsr1 (inState .idle .enterQuad quiet failed)) = some .notEmitted ∧
      faultOf (exec .rdsr2 (inState .rd1 .enterQuad quiet failed)) = some .notEmitted ∧
      faultOf (exec .wren (inState .wrsr .enterQuad quiet failed)) = some .notEmitted ∧
      faultOf (exec (.wrsr 0xA4 0xF8) (inState .wrsr .enterQuad quiet failed)) = some .notEmitted := by
  decide

/-- The read steps: answered and failed, on the device's link (idle, busy, enabled) and on another. -/
theorem test_witness_ReadStatus1StoresOrAborts :
    (inState .rd1 .enterQuad quiet (okWith 0)).bus.master = .block ∧
      (inState .rd1 .enterQuad enabled failed).bus.draws.answer = .fail ∧
      (nextOf (exec .rdsr1 (inState .rd1 .enterQuad cycling (okWith 0xFE)))).map (fun t => t.s1) = some 0xFF ∧
      (nextOf (exec .rdsr1 (onOtherLink .rd1 .enterQuad (okWith 0x01)))).map (fun t => t.s1) = some 0x01 := by
  decide

theorem test_witness_ReadStatus2StoresOrAborts :
    (inState .rd2 .enterQuad quiet (okWith 0)).st = .rd2 ∧
      (inState .rd2 .enterQuad enabled failed).bus.draws.answer = .fail ∧
      (nextOf (exec .rdsr2 (inState .rd2 .enterQuad cycling (okWith 0x02)))).map (fun t => t.s2) = some 0x02 ∧
      (nextOf (exec .rdsr2 (onOtherLink .rd2 .enterQuad (okWith 0xFF)))).map (fun t => t.s2) = some 0xFF := by
  decide

theorem test_witness_WriteEnableStepAdvancesOrAborts :
    (inState .wren .enterQuad quiet (okWith 0)).bus.handle = (inState .wren .enterQuad quiet (okWith 0)).par.link ∧
      (inState .wren .enterQuad quiet (okWith 0)).dev.wip = false ∧
      (inState .wren .enterQuad quiet failedArrived).bus.draws.answer = .fail ∧
      (onOtherLink .wren .enterQuad (okWith 0)).bus.handle ≠ (onOtherLink .wren .enterQuad (okWith 0)).par.link := by
  decide

theorem test_witness_WriteStatusStepStartsPollingOrAborts :
    (inState .wrsr .enterQuad enabled (okWith 0)).st = .wrsr ∧
      (inState .wrsr .enterQuad enabled (okWith 0)).dev.wip = false ∧
      ((0xF8 : Byte) ||| 0x02 = 0xFA) ∧ ((0xF8 : Byte) &&& 0xFD = 0xF8) ∧
      (inState .wrsr .exitQuad enabled failedArrived).bus.draws.answer = .fail ∧
      (onOtherLink .wrsr .enterQuad failed).bus.handle ≠ (onOtherLink .wrsr .enterQuad failed).par.link := by
  decide

/-- The POLL step's four clauses at their boundaries: Fail; idle at the bound; busy at a bound of 1; busy one
short of a bound of 2, and without a bound at the greatest count. -/
theorem test_witness_PollStepFailsCompletesStopsOrRepeats :
    (nextOf (exec .rdsr1 (polling .exitQuad 2 3 cycling failed))).map (fun t => t.res) = some .transportError ∧
      (nextOf (exec .rdsr1 (polling .exitQuad 2 3 quiet (okWith 0)))).map (fun t => (t.res, t.mode)) =
        some (.ok, .single) ∧
      (nextOf (exec .rdsr1 (polling .enterQuad 0 1 cycling (okWith 0)))).map (fun t => t.res) =
        some .deviceNotReady ∧
      (nextOf (exec .rdsr1 (polling .enterQuad 0 2 cycling (okWith 0)))).map (fun t => (t.st, t.pcnt)) =
        some (.poll, 1) ∧
      (nextOf (exec .rdsr1 (polling .enterQuad 0xFFFFFFFF 0 cycling (okWith 0)))).map (fun t => (t.st, t.pcnt)) =
        some (.poll, 0) ∧
      (nextOf (exec .rdsr1 (wide (polling .enterQuad 15 0 cycling (okWith 0))))).map (fun t => (t.st, t.pcnt)) =
        some (.poll, 0) := by
  decide

theorem test_witness_WriteStatusOperandBits :
    (inState .wrsr .enterQuad enabled failed).emits = some (.wrsr 0xA4 0xFA) ∧
      (inState .wrsr .exitQuad enabled failed).emits = some (.wrsr 0xA4 0xF8) := by decide

theorem test_witness_DeviceAnswersReads :
    (foreign enabled (okWith 0)).bus.master = .other ∧ (foreign enabled (okWith 0)).bus.handle = 0 ∧
      (foreign enabled (okWith 0)).par.link = 0 ∧ (foreign enabled failed).bus.draws.answer = .fail := by decide

theorem test_witness_DeviceTakesWriteEnable :
    (foreign quiet (okWith 0)).dev.wip = false ∧ (foreign quiet (okWith 0)).bus.master = .other ∧
      (foreign quiet failedArrived).bus.draws.answer = .fail ∧
      (foreign quiet failedArrived).bus.handle = (foreign quiet failedArrived).par.link := by decide

theorem test_witness_DeviceAcceptsEnabledWrite :
    (foreign enabled (okWith 0)).dev.wip = false ∧ (foreign enabled (okWith 0)).dev.wel = true ∧
      (foreign enabled failedArrived).bus.draws.arrived = true ∧
      (foreign enabled failed).bus.draws.arrived = false ∧ (foreign enabled failed).bus.master = .other ∧
      (foreign quiet failedArrived).dev.wel = false ∧ (foreign quiet failedArrived).bus.draws.answer = .fail := by
  decide

theorem test_witness_UnenabledWriteIsIgnored :
    (foreign quiet (okWith 0)).dev.wel = false ∧ (foreign quiet (okWith 0)).bus.master = .other ∧
      (inState .wrsr .enterQuad quiet (okWith 0)).emits = some (.wrsr 0xA4 0xFA) ∧
      (inState .wrsr .enterQuad quiet (okWith 0)).bus.handle = (inState .wrsr .enterQuad quiet (okWith 0)).par.link ∧
      (nextOf (exec (.wrsr 0xA4 0xFA) (inState .wrsr .enterQuad quiet (okWith 0)))).map (fun t => t.st) =
        some .poll := by
  decide

theorem test_witness_BusyDeviceRefusesWrites :
    (foreign cycling failedArrived).dev.wip = true ∧
      refusalOf (exec (.wrsr 0 0) (foreign cycling failedArrived)) = some .deviceBusy ∧
      (inState .wren .enterQuad cycling failed).emits = some .wren ∧
      (nextOf (exec .wren (inState .wren .enterQuad cycling failed))).map (fun t => t.res) =
        some .transportError := by
  decide

theorem test_witness_DeliveredReadShowsWipAndStoredBits :
    (foreign quiet (okWith 0)).bus.draws.answer = .ok ∧
      (nextOf (exec (Loc.readCommand .sr1) (foreign quiet (okWith 0)))).isSome = true ∧
      (nextOf (exec (Loc.readCommand .sr2) (foreign cycling (okWith 0)))).isSome = true := by decide

theorem test_witness_OtherLinkLeavesTheDevice :
    (onOtherLink .rd1 .enterQuad (okWith 9)).bus.handle ≠ (onOtherLink .rd1 .enterQuad (okWith 9)).par.link ∧
      (nextOf (exec .rdsr1 (onOtherLink .rd1 .enterQuad (okWith 9)))).isSome = true := by decide

theorem test_witness_ReadCommandsFrame :
    (nextOf (exec .rdsr1 (foreign enabled failedArrived))).isSome = true ∧
      (nextOf (exec .rdsr1 (polling .enterQuad 0 1 cycling (okWith 0)))).isSome = true ∧
      (nextOf (exec .rdsr2 (inState .rd2 .exitQuad quiet (okWith 0)))).isSome = true := by decide

theorem test_witness_WriteCommandsFrame :
    (nextOf (exec .wren (foreign quiet failedArrived))).isSome = true ∧
      (nextOf (exec .wren (inState .wren .exitQuad quiet (okWith 0)))).isSome = true ∧
      (nextOf (exec (.wrsr 0xA4 0xFA) (inState .wrsr .enterQuad enabled failed))).isSome = true ∧
      (nextOf (exec (.wrsr 1 2) (foreign enabled (okWith 0)))).isSome = true := by decide

theorem test_witness_CommitMergesThePendingPair :
    (ahead (foreign cycling failed) [.commit]).nextEvent = .commit ∧
      (ahead (foreign cycling failed) [.commit]).dev.wip = true ∧
      (ahead (foreign quiet failed) [.commit]).dev.wip = false := ⟨rfl, rfl, rfl⟩

theorem test_witness_StoredPairChangesOnlyAtCommit :
    (nextOf (step (ahead (foreign cycling failed) [.commit]))).map (fun t => t.dev.stored .sr2) = some 0xFA ∧
      (ahead (foreign cycling failed) [.commit]).dev.stored .sr2 = 0xF8 := by decide

theorem test_witness_WriteCycleStartsAndEnds :
    (nextOf (step (ahead (foreign enabled failed) [.other 0 [0x01, 1, 2] 0 (okWith 0)]))).map (fun t => t.dev.wip) =
        some true ∧
      (nextOf (step (ahead (foreign cycling failed) [.commit]))).map (fun t => t.dev.wip) = some false := by
  decide

theorem test_witness_StoredBusyBitNeverChanges :
    legalMasks 0xFE 0xFF = true ∧ legalMasks 0x00 0x02 = true ∧
      (nextOf (step (ahead (foreign cycling failed) [.commit]))).isSome = true := by decide

theorem test_witness_FailedWriteLeavesOldOrWrittenPair :
    (ahead (inState .wrsr .enterQuad enabled failed) [.transport failedArrived]).nextEvent =
        .transport failedArrived ∧
      (ahead (inState .wrsr .enterQuad enabled failed) [.transport failedArrived]).dev.wip = false ∧
      failedArrived.answer = .fail := ⟨rfl, rfl, rfl⟩

theorem test_witness_FailedExchangeEndsTheOperation :
    (ahead (polling .enterQuad 0 0 cycling failed) [.transport failed]).emits = some .rdsr1 ∧
      (ahead (inState .wren .enterQuad quiet failed) [.transport failed]).emits = some .wren ∧
      (ahead (inState .wren .enterQuad quiet failed) [.transport failed]).nextEvent = .transport failed := by
  exact ⟨rfl, rfl, rfl⟩

/-- Each of the five states, with a failing exchange. -/
theorem test_witness_TransportErrorIffExchangeFailed :
    [St.rd1, .rd2, .wren, .wrsr, .poll].all (fun st =>
      (nextOf (step (ahead (inState st .enterQuad quiet failed) [.transport failed]))).map (fun t => t.res) ==
        some .transportError) = true := by decide

theorem test_witness_DeviceNotReadyOnlyAtTheBound :
    (nextOf (step (ahead (polling .enterQuad 0 1 cycling failed) [.transport (okWith 0)]))).map (fun t => t.res) =
      some .deviceNotReady := by decide

theorem test_witness_CompletionOnlyOnAnIdlePoll :
    (nextOf (step (ahead (polling .enterQuad 0 1 quiet failed) [.transport (okWith 0)]))).map
        (fun t => (t.res, t.mode)) =
      some (.ok, .quad) := by decide

theorem test_witness_StateSuccessors :
    (nextOf (step (ahead (polling .enterQuad 0 0 cycling failed) [.transport (okWith 0)]))).map (fun t => t.st) =
        some .poll ∧
      (nextOf (step (ahead (inState .rd1 .enterQuad quiet failed) [.transport (okWith 0)]))).map (fun t => t.st) =
        some .rd2 := by decide

theorem test_witness_ResetClearsBlockKeepsDevice :
    (ahead (polling .enterQuad 5 0 cycling failed) [.reset default failed]).nextEvent = .reset default failed ∧
      (ahead (polling .enterQuad 5 0 cycling failed) [.reset default failed]).outstanding = false ∧
      (ahead { State.reset with outstanding := true } [.reset default failed]).st = .idle := ⟨rfl, rfl, rfl⟩

/-- The reset of `s`, with its exchange outstanding. -/
def resetOutstanding (s : State) (x : Draws) : State := ahead { s with outstanding := true } [.reset default x]

/-- What the newest entry of the trace came to, after a step. -/
def lastReply (s : State) : Option Reply := (nextOf (step s)).bind (fun t => t.trace.head?.map (·.reply))

/-- An abandoned read, Write Enable and Write Status at a device without a write cycle, on its link and on another;
an abandoned poll at a busy device; a write-type command at a busy device, not arrived and arrived. -/
theorem test_witness_ResetAbandonsTheOutstandingExchange :
    ([St.rd1, .rd2, .wren, .wrsr, .poll].all (fun st =>
      [inState st .enterQuad enabled failed, onOtherLink st .enterQuad failed].all (fun s =>
        let u := resetOutstanding s failedArrived
        u.outstanding && u.emits.isSome && (decide (u.h ≠ u.par.link) || !u.dev.wip) &&
          decide (lastReply u = some .abandoned)))) = true ∧
      (nextOf (step (resetOutstanding (polling .enterQuad 5 0 cycling failed) failed))).map (fun t => (t.st, t.dev)) =
        some (.idle, cycling) ∧
      (resetOutstanding (inState .wren .enterQuad cycling failed) failed).emits = some .wren ∧
      lastReply (resetOutstanding (inState .wren .enterQuad cycling failed) failed) = some .abandoned ∧
      refusalOf (step (resetOutstanding (inState .wrsr .enterQuad cycling failed) failedArrived)) =
        some .deviceBusy := by
  decide

theorem test_witness_BoundSuppliedBeforeTheFirstOperation :
    (ahead State.reset [.setBound 16]).nextEvent = .setBound 16 ∧ (ahead State.reset [.setBound 16]).st = .idle ∧
      State.reset.begun = false ∧
      (nextOf (step (ahead (wide State.reset) [.setBound 19]))).map (fun t => t.par.pollBound) = some 3 ∧
      refusalOf (step (ahead (inState .rd1 .enterQuad quiet failed) [.setBound 16])) = some .pollBoundFixed ∧
      refusalOf (step (ahead { State.reset with begun := true } [.setBound 16])) = some .pollBoundFixed :=
  ⟨rfl, rfl, rfl, by decide, by decide, by decide⟩

theorem test_witness_ConfigurationConstantWhileActive :
    (nextOf (step (ahead (inState .rd1 .enterQuad quiet failed) [.silence]))).isSome = true ∧
      (nextOf (step (ahead { State.reset with begun := true } [.reset default failed]))).map (·.begun) = some true ∧
      (nextOf (step (ahead State.reset [.start 0 0]))).map (fun t => (t.st, t.begun)) = some (.rd1, true) ∧
      (nextOf (step (ahead State.reset [.setBound 16]))).map (fun t => t.par.pollBound) = some 16 := by decide

/-- The invariants hold in a state in mid-operation, and the step is a next state. -/
theorem test_witness_WriteEnableAlwaysPrecedesWrite :
    EnablePaired { inState .wrsr .enterQuad enabled failed with trace := [blockExchange 0 .wren (.ok [])] } ∧
      (nextOf (step (ahead { inState .wrsr .enterQuad enabled failed with
        trace := [blockExchange 0 .wren (.ok [])] } [.transport (okWith 0)]))).isSome = true := by
  unfold EnablePaired
  decide

theorem test_witness_ResultAndModeStayConsistent :
    ResultsConsistent (inState .poll .enterQuad quiet failed) ∧
      ResultsConsistent { inState .idle .exitQuad quiet failed with res := .ok, mode := .single } ∧
      (nextOf (step (ahead (inState .poll .enterQuad quiet failed) [.transport (okWith 0)]))).isSome = true := by
  unfold ResultsConsistent
  decide

theorem test_witness_PollCounterStaysBelowBound :
    PollCountBelowBound (polling .enterQuad 1 3 cycling failed) ∧
      PollCountBelowBound (polling .enterQuad 0 1 cycling failed) ∧
      (nextOf (step (ahead (polling .enterQuad 1 3 cycling failed) [.transport (okWith 0)]))).map
        (fun t => t.pcnt) = some 2 := by
  unfold PollCountBelowBound
  decide

theorem test_witness_NothingOutstandingWhenIdle :
    OutstandingOnlyActive { inState .rd1 .enterQuad quiet failed with outstanding := true } ∧
      OutstandingOnlyActive State.reset := by
  unfold OutstandingOnlyActive
  decide

theorem test_witness_WidthsStayRespected :
    WidthsRespected (ahead (wide State.reset) [.start 1 0x1FE]) ∧
      (nextOf (step (ahead (wide State.reset) [.start 1 0x1FE]))).map (·.h) = some 0xFE ∧
      WidthsRespected (polling .enterQuad 0xFFFFFFFF 0 cycling failed) := by
  unfold WidthsRespected
  decide

/-- In WRSR, after the reads of (0xA4, 0xF8) and the Write Enable. -/
def beforeWrite : State :=
  { inState .wrsr .enterQuad enabled failed with
    trace := [blockExchange 0 .wren (.ok []), blockExchange 0 .rdsr2 (.ok [0xF8]),
      blockExchange 0 .rdsr1 (.ok [0xA4])] }

theorem test_witness_EveryWriteCarriesThePairRead :
    PairReadCarried beforeWrite ∧
      (nextOf (step (ahead beforeWrite [.transport (okWith 0)]))).map (fun t => t.trace.head?.map (·.tx)) =
        some (some [0x01, 0xA4, 0xFA]) :=
  ⟨⟨⟨nofun, nofun, nofun, trivial⟩, nofun, nofun, fun _ => ⟨[], rfl⟩⟩, by decide⟩

/-- A dutiful start on a quiescent device, a dutiful answer in mid-operation, and a busy device reached by another
user's command. -/
theorem test_witness_DutifulHostNeverMeetsARefusal :
    NotBusyBeforeWrite (foreign quiet failed) ∧ dutiful (foreign quiet failed) (.start 0 0) = true ∧
      NotBusyBeforeWrite (inState .wren .enterQuad enabled failed) ∧
      dutiful (inState .wren .enterQuad enabled failed) (.transport failed) = true ∧
      refusalOf (step (ahead (foreign cycling failed) [.other 0 [0x06] 0 (okWith 0)])) = some .deviceBusy := by
  unfold NotBusyBeforeWrite
  decide

/-- Two different states that agree on everything live: in RD1 with other S1, S2, PCNT, RES and MODE. -/
theorem test_witness_StaleRegistersNeverMatter :
    AgreeOnLive (ahead (inState .rd1 .enterQuad quiet failed) [.transport (okWith 0)])
        { ahead (inState .rd1 .enterQuad quiet failed) [.transport (okWith 0)] with
          s1 := 1, s2 := 2, pcnt := 3, res := .ok, mode := .quad } ∧
      (nextOf (step (ahead (inState .rd1 .enterQuad quiet failed) [.transport (okWith 0)]))).isSome = true :=
  ⟨⟨rfl, rfl, rfl, rfl, rfl, rfl, rfl, rfl, rfl, fun _ => rfl, fun _ => rfl, by decide, by decide, by decide⟩,
    by decide⟩

/-- On the device's link and on another, where the pair is what the transport delivers. -/
theorem test_witness_WriteCarriesThePairRead :
    (ahead (inState .rd1 .enterQuad quiet failed) fourAnswers).st = .rd1 ∧
      (ahead (inState .rd1 .enterQuad quiet failed) fourAnswers).dev.wip = false ∧
      fourAnswers.all (fun e => match e with | .transport x => decide (x.answer = .ok) | _ => false) = true ∧
      (nextOf (run 4 (ahead (inState .rd1 .enterQuad quiet failed) fourAnswers))).map
        (fun t => t.trace.head?.map (·.tx)) = some (some [0x01, 0xA4, 0xFA]) ∧
      (ahead (onOtherLink .rd1 .exitQuad failed) fourAnswers).h ≠
        (ahead (onOtherLink .rd1 .exitQuad failed) fourAnswers).par.link ∧
      (nextOf (run 4 (ahead (onOtherLink .rd1 .exitQuad failed) fourAnswers))).map
        (fun t => t.trace.head?.map (·.tx)) = some (some [0x01, 0x55, 0x64]) := by
  decide

/-- P1: from reset and the pair (0xA5, 0xF8), one busy poll, without a bound and with the least that allows it. -/
theorem test_witness_EnterQuadEndToEnd :
    [0, 2].all (fun n =>
      let s := ahead (bounded n (foreign quiet failed)) (wholeOperation 0)
      decide (s.st = .idle) && s.dev.quiescent && legalMasks s.par.wmask1 s.par.wmask2 &&
        decide (s.par.pollBound = n) && (decide (n = 0) || decide ([okWith 0xFF].length + 1 ≤ n)) &&
        decide ((nextOf (run 8 s)).map (fun t => (t.res, t.mode, t.dev.n1, t.dev.n2)) =
          some (.ok, .quad, 0xA5, 0xFA))) = true ∧
      WidthsRespected (ahead (bounded 2 (foreign quiet failed)) (wholeOperation 0)) ∧
      wholeOperation 0 = .start 0 0 :: .transport (okWith 0x55) :: .transport (okWith 0x66) ::
        .transport (okWith 0) :: .transport (okWith 0) ::
          ([okWith 0xFF].map .transport ++ .commit :: .transport (okWith 0) :: []) := by
  unfold WidthsRespected
  decide

/-- The same for EXIT_QUAD, from the pair (0xA5, 0xFA) that ENTER_QUAD leaves. -/
theorem test_witness_ExitQuadEndToEnd :
    [0, 2].all (fun n =>
      let s := ahead (bounded n (foreign { quiet with n2 := 0xFA } failed)) (wholeOperation 1)
      decide (s.st = .idle) && s.dev.quiescent && legalMasks s.par.wmask1 s.par.wmask2 &&
        decide (s.par.pollBound = n) && (decide (n = 0) || decide ([okWith 0xFF].length + 1 ≤ n)) &&
        decide ((nextOf (run 8 s)).map (fun t => (t.res, t.mode, t.dev.n1, t.dev.n2)) =
          some (.ok, .single, 0xA5, 0xF8))) = true ∧
      WidthsRespected (ahead (bounded 2 (foreign { quiet with n2 := 0xFA } failed)) (wholeOperation 1)) := by
  unfold WidthsRespected
  decide

/-- P4: the bound of 3 and the bound of 1 against a device that stays busy, and a bound of 2 on the other link. -/
theorem test_witness_NeverReadyDeviceGetsExactlyNPolls :
    [1, 3].all (fun n =>
      let s := ahead (polling .enterQuad 0 n cycling failed) (List.replicate n (.transport (okWith 0)))
      decide (s.h = s.par.link) && s.dev.wip && decide (s.par.pollBound = n) &&
        decide ((nextOf (run n s)).map (fun t => (t.st, t.res)) = some (.idle, .deviceNotReady))) = true ∧
      WidthsRespected (polling .enterQuad 0 3 cycling failed) ∧
      (let s := ahead (bounded 2 (onOtherLink .poll .enterQuad failed)) ([okWith 0x01, okWith 0xFF].map .transport)
       s.h ≠ s.par.link ∧ s.pcnt = 0 ∧ s.par.pollBound = 2 ∧ WidthsRespected s ∧
          (nextOf (run 2 s)).map (·.res) = some .deviceNotReady) ∧
      (∀ x ∈ [okWith 0x01, okWith 0xFF], x.answer = .ok ∧ x.byte.getLsbD 0 = true) := by
  unfold WidthsRespected
  decide

/-- A bound of 1 and an idle device; no bound and three busy polls, on the device's link and on another. -/
theorem test_witness_WaitReadyTermination :
    (let s := ahead (polling .enterQuad 0 1 quiet failed) [.transport (okWith 0)]
     s.st = .poll ∧ s.par.pollBound = 1 ∧ WidthsRespected s ∧ (nextOf (run 1 s)).map (·.st) = some .idle) ∧
      (let s := ahead (polling .enterQuad 0 0 cycling failed) (List.replicate 3 (.transport (okWith 0)))
       s.par.pollBound = 0 ∧ s.dev.wip = true ∧ s.h = s.par.link ∧ WidthsRespected s ∧
          (nextOf (run 3 s)).map (fun t => (t.st, t.pcnt)) = some (.poll, 3)) ∧
      (let s := ahead { onOtherLink .poll .enterQuad failed with pcnt := 15 } [.transport (okWith 0x01)]
       s.par.pollBound = 0 ∧ s.h ≠ s.par.link ∧ WidthsRespected s ∧
          (nextOf (run 1 s)).map (fun t => (t.st, t.pcnt)) = some (.poll, 0)) := by
  unfold WidthsRespected
  decide

/-- A run without end: a poll with bound `bound` at an idle device, then answers to a block in IDLE. -/
def endingRun (bound : Nat) : Nat → State
  | 0 => polling .enterQuad 0 bound quiet failed
  | n + 1 => { inState .idle .enterQuad quiet (okWith 0) with
      par := { State.reset.par with pollBound := bound }
      res := .ok, mode := .quad, trace := [blockExchange 0 .rdsr1 (.ok [0xA4])], clock := n + 1 }

theorem test_endingRun_isRun (bound : Nat) (h : bound = 0 ∨ bound = 1) :
    IsRun (fun _ => .transport (okWith 0)) (endingRun bound) := by
  intro n
  cases n with
  | zero => rcases h with rfl | rfl <;> rfl
  | succ n => rfl

/-- Both clauses' premises, on the runs with the bound 1 and with none. -/
theorem test_witness_ResponsiveOperationEnds :
    IsRun (fun _ => .transport (okWith 0)) (endingRun 1) ∧ IsRun (fun _ => .transport (okWith 0)) (endingRun 0) ∧
      (∀ bound, TransportResponsive (fun _ => .transport (okWith 0)) (endingRun bound) ∧
        DeviceCompliant (fun _ => .transport (okWith 0)) (endingRun bound)) ∧
      ((endingRun 1 0).active = true ∧ (endingRun 1 0).par.pollBound ≠ 0 ∧ WidthsRespected (endingRun 1 0) ∧
        PollCountBelowBound (endingRun 1 0)) ∧
      (endingRun 0 0).active = true ∧ (endingRun 0 0).h = (endingRun 0 0).par.link :=
  ⟨test_endingRun_isRun 1 (.inr rfl), test_endingRun_isRun 0 (.inl rfl),
    fun _ => ⟨fun n _ => ⟨n, Nat.le_refl n, .inl ⟨_, rfl⟩⟩, fun n h => by cases n <;> cases h⟩,
    by unfold WidthsRespected PollCountBelowBound; decide, rfl, rfl⟩

theorem test_witness_AbsentDeviceAbortsAtOnce :
    (foreign quiet failed).st = .idle ∧ (foreign quiet failed).dev.wel = false ∧ failed.answer = .fail ∧
      (ahead (foreign quiet failed) [.start 1 0, .transport failed]).schedule =
        .start 1 0 :: .transport failed :: [] := ⟨rfl, rfl, rfl, rfl⟩

/-- The words of the table's statement above 1: the least, an opcode and the greatest. -/
theorem test_witness_TableWordsMatchTheirMasks :
    1 < (2 : BitVec 8).toNat ∧ decodeTableWord 8 2 = none ∧ decodeTableWord 8 0x35 = some .rdsr2 ∧
      decodeTableWord 8 0xFF = none ∧ decodeTableWord 24 0xFFFFFF = none := by decide

end Sys2Proof.Tests
end

namespace Sys2Proof.Machine

/-! ### What an exchange does to H, the port and PCNT

The FSM's transitions on an answered exchange touch neither H nor the port; PCNT is written by the Write Status step,
which clears it, and by the POLL step alone (R38, R134, R182). -/

@[simp] theorem State.onRd1_h (u : State) (got : Option Byte) : (u.onRd1 got).h = u.h := by cases got <;> rfl
@[simp] theorem State.onRd1_bus (u : State) (got : Option Byte) : (u.onRd1 got).bus = u.bus := by cases got <;> rfl
@[simp] theorem State.onRd1_pcnt (u : State) (got : Option Byte) : (u.onRd1 got).pcnt = u.pcnt := by
  cases got <;> rfl
theorem State.onRd1_st_ne_poll (u : State) (got : Option Byte) : (u.onRd1 got).st ≠ .poll := by cases got <;> nofun

@[simp] theorem State.onRd2_h (u : State) (got : Option Byte) : (u.onRd2 got).h = u.h := by cases got <;> rfl
@[simp] theorem State.onRd2_bus (u : State) (got : Option Byte) : (u.onRd2 got).bus = u.bus := by cases got <;> rfl
@[simp] theorem State.onRd2_pcnt (u : State) (got : Option Byte) : (u.onRd2 got).pcnt = u.pcnt := by
  cases got <;> rfl
theorem State.onRd2_st_ne_poll (u : State) (got : Option Byte) : (u.onRd2 got).st ≠ .poll := by cases got <;> nofun

@[simp] theorem State.onWren_h (u : State) (a : Answer) : (u.onWren a).h = u.h := by cases a <;> rfl
@[simp] theorem State.onWren_bus (u : State) (a : Answer) : (u.onWren a).bus = u.bus := by cases a <;> rfl
@[simp] theorem State.onWren_pcnt (u : State) (a : Answer) : (u.onWren a).pcnt = u.pcnt := by cases a <;> rfl
theorem State.onWren_st_ne_poll (u : State) (a : Answer) : (u.onWren a).st ≠ .poll := by cases a <;> nofun

@[simp] theorem State.onWrsr_h (u : State) (a : Answer) : (u.onWrsr a).h = u.h := by cases a <;> rfl
@[simp] theorem State.onWrsr_bus (u : State) (a : Answer) : (u.onWrsr a).bus = u.bus := by cases a <;> rfl
theorem State.onWrsr_pcnt (u : State) (a : Answer) :
    (u.onWrsr a).pcnt = 0 ∨ (u.onWrsr a).pcnt = u.pcnt ∧ (u.onWrsr a).st ≠ .poll := by
  cases a with
  | ok => exact .inl rfl
  | fail => exact .inr ⟨rfl, nofun⟩

@[simp] theorem State.onPoll_h (u : State) (got : Option Byte) : (u.onPoll got).h = u.h := by
  rcases u.onPoll_cases got with ⟨_, h⟩ | ⟨_, _, _, h⟩ | ⟨_, _, _, _, h⟩ | ⟨_, _, _, _, h⟩ <;> simp [h]
@[simp] theorem State.onPoll_bus (u : State) (got : Option Byte) : (u.onPoll got).bus = u.bus := by
  rcases u.onPoll_cases got with ⟨_, h⟩ | ⟨_, _, _, h⟩ | ⟨_, _, _, _, h⟩ | ⟨_, _, _, _, h⟩ <;> simp [h]
theorem State.onPoll_pcnt (u : State) (got : Option Byte) :
    (u.onPoll got).pcnt = u.pollsDone ∨ (u.onPoll got).pcnt = u.pcnt ∧ (u.onPoll got).st ≠ .poll := by
  rcases u.onPoll_cases got with ⟨_, h⟩ | ⟨_, _, _, h⟩ | ⟨_, _, _, _, h⟩ | ⟨_, _, _, _, h⟩ <;> simp [h]

/-- A wire command keeps H and the port. -/
theorem exec_h_bus {i : Instr} {s t : State} (hx : exec i s = .next t)
    (hi : ∀ h, i ≠ .enterQuad h ∧ i ≠ .exitQuad h) : t.h = s.h ∧ t.bus = s.bus := by
  cases i with
  | rdsr1 => rcases execRdsr1_next hx with ⟨_, rfl⟩ | ⟨_, _, rfl⟩ | ⟨_, _, rfl⟩ <;> simp
  | rdsr2 => rcases execRdsr2_next hx with ⟨_, rfl⟩ | ⟨_, _, rfl⟩ <;> simp
  | wren => rcases execWren_next hx with ⟨_, ⟨_, rfl⟩ | ⟨_, _, rfl⟩⟩ <;> simp
  | wrsr a b => rcases execWrsr_next hx with ⟨_, ⟨_, rfl⟩ | ⟨_, _, rfl⟩⟩ <;> simp
  | enterQuad h => exact absurd rfl (hi h).1
  | exitQuad h => exact absurd rfl (hi h).2

/-- A wire command keeps PCNT, or it is the block's Write Status, which clears it, or the block's poll, which
counts itself; an exchange of the block that leads to POLL is one of the last two. -/
theorem exec_pcnt {i : Instr} {s t : State} (hx : exec i s = .next t)
    (hi : ∀ h, i ≠ .enterQuad h ∧ i ≠ .exitQuad h) :
    (t.pcnt = s.pcnt ∧ (s.bus.master = .block → t.st ≠ .poll)) ∨
      (s.bus.master = .block ∧ s.st = .wrsr ∧ t.pcnt = 0) ∨
      (s.bus.master = .block ∧ s.st = .poll ∧ t.pcnt = s.pollsDone) := by
  cases i with
  | rdsr1 =>
    rcases execRdsr1_next hx with ⟨hm, rfl⟩ | ⟨hm, _, rfl⟩ | ⟨hm, hst, rfl⟩
    · simp [hm]
    · simp [State.onRd1_st_ne_poll]
    · rcases State.onPoll_pcnt _ _ with h | ⟨h, hne⟩
      · exact .inr (.inr ⟨hm, hst, h⟩)
      · exact .inl ⟨h, fun _ => hne⟩
  | rdsr2 =>
    rcases execRdsr2_next hx with ⟨hm, rfl⟩ | ⟨_, _, rfl⟩
    · simp [hm]
    · simp [State.onRd2_st_ne_poll]
  | wren =>
    rcases execWren_next hx with ⟨_, ⟨hm, rfl⟩ | ⟨_, _, rfl⟩⟩
    · simp [hm]
    · simp [State.onWren_st_ne_poll]
  | wrsr a b =>
    rcases execWrsr_next hx with ⟨_, ⟨hm, rfl⟩ | ⟨hm, he, rfl⟩⟩
    · simp [hm]
    · rcases State.onWrsr_pcnt _ _ with h | ⟨h, hne⟩
      · exact .inr (.inl ⟨hm, ((s.emits_wrsr_iff a b).1 he).1, h⟩)
      · exact .inl ⟨h, fun _ => hne⟩
  | enterQuad h => exact absurd rfl (hi h).1
  | exitQuad h => exact absurd rfl (hi h).2

/-! ### Widths (O49) -/

theorem WidthsRespected.pcnt_lt {s : State} (hw : WidthsRespected s) : s.pcnt < 2 ^ s.par.pollW := hw.2.1

theorem WidthsRespected.pollBound_lt {s : State} (hw : WidthsRespected s) : s.par.pollBound < 2 ^ s.par.pollW :=
  hw.2.2.1

theorem WidthsRespected.h_lt {s : State} (hw : WidthsRespected s) : s.h < 2 ^ s.par.handleW := hw.2.2.2.1

theorem WidthsRespected.busHandle_lt {s : State} (hw : WidthsRespected s) : s.bus.handle < 2 ^ s.par.handleW :=
  hw.2.2.2.2.2

/-- Under the same configuration only H, PCNT and the port's handle can lose their widths. -/
theorem WidthsRespected.of_par_eq {s t : State} (hw : WidthsRespected s) (hpar : t.par = s.par)
    (hpcnt : t.pcnt < 2 ^ s.par.pollW) (hh : t.h < 2 ^ s.par.handleW)
    (hbus : t.bus.handle < 2 ^ s.par.handleW) : WidthsRespected t := by
  obtain ⟨hone, _, hbound, _, hlink, _⟩ := hw
  unfold WidthsRespected
  rw [hpar]
  exact ⟨hone, hpcnt, hbound, hh, hlink, hbus⟩

/-- An exchange placed on the port with a handle of the width keeps the widths. -/
theorem WidthsRespected.of_withBus {s : State} (hw : WidthsRespected s) {b : Bus}
    (hb : b.handle < 2 ^ s.par.handleW) : WidthsRespected (s.advance.withBus b) :=
  hw.of_par_eq rfl hw.pcnt_lt hw.h_lt hb

theorem WidthsRespected.of_start {s : State} (hw : WidthsRespected s) (op : Op) (h : Handle) :
    WidthsRespected (s.start op h) := by
  rcases s.start_cases op h with ⟨_, he⟩ | ⟨_, he⟩
  · rw [he]
    exact hw.of_par_eq rfl hw.pcnt_lt (s.par.handleBits_lt h) hw.busHandle_lt
  · rwa [he]

theorem WidthsRespected.of_setBound {s : State} (hw : WidthsRespected s) (n : Nat) :
    WidthsRespected (s.setBound n) := by
  obtain ⟨hone, hpcnt, _, hh, hlink, hbus⟩ := hw
  exact ⟨hone, hpcnt, s.par.countBits_lt n, hh, hlink, hbus⟩

/-- What a reset leaves in H and PCNT is cut to their widths, and an abandoned exchange was on the handle H. -/
theorem WidthsRespected.of_takeReset {s t : State} (hw : WidthsRespected s) {l : Leftover} {x : Draws}
    (hr : takeReset s l x = .next t) : WidthsRespected t := by
  rcases takeReset_next hr with ⟨_, rfl⟩ | ⟨i, u, _, _, rfl, _, rfl⟩
  · exact hw.of_par_eq rfl (s.par.countBits_lt _) (s.par.handleBits_lt _) hw.busHandle_lt
  · exact hw.of_par_eq rfl (s.par.countBits_lt _) (s.par.handleBits_lt _) hw.h_lt

theorem WidthsRespected.of_exec {i : Instr} {s t : State} (hw : WidthsRespected s)
    (hi : ∀ h, i ≠ .enterQuad h ∧ i ≠ .exitQuad h) (hx : exec i s = .next t) : WidthsRespected t := by
  obtain ⟨hth, htbus⟩ := exec_h_bus hx hi
  refine hw.of_par_eq (exec_dev hx).2 ?_ (hth ▸ hw.h_lt) (htbus ▸ hw.busHandle_lt)
  rcases exec_pcnt hx hi with ⟨h, _⟩ | ⟨_, _, h⟩ | ⟨_, _, h⟩ <;> rw [h]
  · exact hw.pcnt_lt
  · exact Nat.two_pow_pos _
  · exact s.par.countBits_lt _

/-- Settles O49, by cases on the environment's move: whatever a move writes to a value with a width is cut to that
width or is a value that has it already. -/
theorem widthsStayRespected : Obligations.WidthsStayRespected := by
  unfold Obligations.WidthsStayRespected
  intro s t hw hs
  have hadv : WidthsRespected s.advance := hw
  rcases step_cases hs with ⟨op, h, _, rfl⟩ | ⟨l, x, _, hr⟩ | ⟨n, _, _, _, rfl⟩ | ⟨_, _, _, rfl⟩ |
    ⟨x, i, _, hem, hx⟩ | ⟨_, rfl⟩ | ⟨_, rfl⟩ | ⟨h, _, _, x, i, _, hd, hx⟩
  · exact hadv.of_start _ h
  · exact hadv.of_takeReset hr
  · exact hadv.of_setBound n
  · exact hadv
  · exact (hw.of_withBus hw.h_lt).of_exec (emits_not_hostop hem) hx
  · exact hadv
  · exact hadv
  · exact (hw.of_withBus (s.par.handleBits_lt h)).of_exec (decodeWire_ne_hostop hd) hx

/-! ### One step of an operation that goes on -/

/-- Where an answered exchange leaves an operation that it does not end: one line further (R151), at the first
poll with PCNT cleared (R134), or at the next poll with this one counted and the bound not reached (R182). -/
def Advances (s t : State) : Prop :=
  (s.st, t.st) ∈ [(St.rd1, St.rd2), (.rd2, .wren), (.wren, .wrsr)] ∨
    (s.st = .wrsr ∧ t.st = .poll ∧ t.pcnt = 0) ∨
    (s.st = .poll ∧ t.st = .poll ∧ boundReached s.par.pollBound s.pollsDone = false ∧ t.pcnt = s.pollsDone)

/-- An exchange of the block that does not end the operation advances it. -/
theorem exec_advances {i : Instr} {s t : State} (hx : exec i s = .next t)
    (hi : ∀ h, i ≠ .enterQuad h ∧ i ≠ .exitQuad h) (hb : s.bus.master = .block) (ht : t.st ≠ .idle) :
    Advances s t := by
  unfold Advances
  rcases exec_row hx hi with ⟨ho, _⟩ | ⟨_, _, _, _, hrow⟩
  · simp [hb] at ho
  rcases hrow with ⟨_, _, _, h⟩ | ⟨_, hne, _, _, hline⟩ | ⟨_, _, _, _, _, _, _, h⟩ |
    ⟨_, _, _, _, _, _, _, _, h⟩ | ⟨hst, _, _, _, _, hreach, _, _, htst, hp⟩
  · exact absurd h ht
  · by_cases hpoll : t.st = .poll
    · rcases exec_pcnt hx hi with ⟨_, h⟩ | ⟨_, hst, hp⟩ | ⟨_, h, _⟩
      · exact absurd hpoll (h hb)
      · exact .inr (.inl ⟨hst, hpoll, hp⟩)
      · exact absurd h hne
    · left
      simpa [hpoll] using hline
  · exact absurd h ht
  · exact absurd h ht
  · exact .inr (.inr ⟨hst, htst, hreach, hp⟩)

/-! The step on three of the environment's moves. -/

theorem step_eq_of_reset {s : State} {l : Leftover} {x : Draws} (he : s.nextEvent = .reset l x) :
    step s = takeReset s.advance l x := by
  simp [step, fetch, he]

theorem step_eq_of_commit {s : State} (he : s.nextEvent = .commit) : step s = .next s.advance.commit := by
  simp [step, fetch, he]

theorem step_eq_of_transport {s : State} {i : Instr} {x : Draws} (he : s.nextEvent = .transport x)
    (hem : s.emits = some i) : step s = exec i (s.advance.withBus ⟨.block, s.h, x⟩) := by
  simp [step, fetch, he, hem, decode_of_emits hem]

/-- A reset leaves IDLE (R300). -/
theorem step_reset_st {s t : State} {l : Leftover} {x : Draws} (hs : step s = .next t)
    (he : s.nextEvent = .reset l x) : t.st = .idle := by
  rw [step_eq_of_reset he] at hs
  rcases takeReset_next hs with ⟨_, rfl⟩ | ⟨_, _, _, _, _, _, rfl⟩ <;> rfl

/-- A step from and to an operation: H and the configuration are kept, and either the step is no answer and ST and
PCNT are kept, or it is an answer and the operation advances. -/
theorem step_of_active {s t : State} (hs : step s = .next t) (ha : s.st ≠ .idle) (ht : t.st ≠ .idle) :
    t.h = s.h ∧ t.par = s.par ∧
      ((t.st = s.st ∧ t.pcnt = s.pcnt ∧ ∀ x, s.nextEvent ≠ .transport x) ∨
        ((∃ x, s.nextEvent = .transport x) ∧ Advances s t)) := by
  rcases step_cases hs with ⟨o, h, he, rfl⟩ | ⟨l, x, he, _⟩ | ⟨_, _, hi, _⟩ | ⟨_, _, hi, _⟩ |
    ⟨x, i, he, hem, hx⟩ | ⟨he, rfl⟩ | ⟨he, rfl⟩ | ⟨_, _, _, _, i, he, hd, hx⟩
  · rcases s.advance.start_cases (startedOp o) h with ⟨hi, _⟩ | ⟨_, hk⟩
    · exact absurd hi ha
    · simp [hk, he]
  · exact absurd (step_reset_st hs he) ht
  · exact absurd hi ha
  · exact absurd hi ha
  · have hi := emits_not_hostop hem
    have hadv : Advances s t := exec_advances (s := s.advance.withBus ⟨.block, s.h, x⟩) hx hi rfl ht
    exact ⟨(exec_h_bus hx hi).1, (exec_dev hx).2, .inr ⟨⟨x, he⟩, hadv⟩⟩
  · simp [he]
  · simp [he]
  · have hi := decodeWire_ne_hostop hd
    have hst : t.st = s.st := by
      rcases exec_row hx hi with ⟨_, _, _, h, _⟩ | ⟨hb, _⟩
      · exact h
      · simp at hb
    have hpcnt : t.pcnt = s.pcnt := by
      rcases exec_pcnt hx hi with ⟨h, _⟩ | ⟨hb, _⟩ | ⟨hb, _⟩
      · exact h
      · simp at hb
      · simp at hb
    exact ⟨(exec_h_bus hx hi).1, (exec_dev hx).2, .inl ⟨hst, hpcnt, by simp [he]⟩⟩

/-! ### A poll and the write cycle (R222, R232) -/

theorem Device.commit_wip (d : Device) (p : Params) : (d.commit p).wip = false := by
  unfold Device.commit
  split
  · rfl
  · simp_all

/-- Commit ends the write cycle, if there is one. -/
theorem step_commit_wip {s t : State} (hs : step s = .next t) (he : s.nextEvent = .commit) : t.dev.wip = false := by
  rw [step_eq_of_commit he] at hs
  cases hs
  exact Device.commit_wip _ _

/-- In POLL the block emits Read Status1. -/
theorem emits_poll {s : State} (hst : s.st = .poll) : s.emits = some .rdsr1 := by
  simp [State.emits, hst]

/-- No write cycle begins while the block polls on and no other user is on the transport. -/
theorem step_poll_keeps_wip_false {s t : State} (hs : step s = .next t) (hst : s.st = .poll) (ht : t.st ≠ .idle)
    (hno : ∀ h tx k x, s.nextEvent ≠ .other h tx k x) (hwip : s.dev.wip = false) : t.dev.wip = false := by
  rcases step_cases hs with ⟨o, h, _, rfl⟩ | ⟨l, x, he, _⟩ | ⟨_, _, _, _, rfl⟩ | ⟨_, _, _, rfl⟩ |
    ⟨x, i, _, hem, hx⟩ | ⟨_, rfl⟩ | ⟨he, _⟩ | ⟨h, tx, k, x, _, he, _⟩
  · simpa [State.start_environment] using hwip
  · exact absurd (step_reset_st hs he) ht
  · exact hwip
  · exact hwip
  · rw [emits_poll hst] at hem
    cases hem
    rw [(exec_dev hx).1]
    simpa [State.devAfter] using hwip
  · exact hwip
  · exact step_commit_wip hs he
  · exact absurd he (hno h tx k x)

/-- A delivered Read Status1 of a device without a write cycle shows bit 0 clear (R222). -/
theorem gotStatus1_ready {s : State} {b : Byte} (hatt : s.attached = true) (hwip : s.dev.wip = false)
    (hg : gotStatus1 s = some b) : busyBit b = false := by
  unfold gotStatus1 State.received at hg
  split at hg
  · rw [if_pos hatt, Device.status1, hwip] at hg
    cases hg
    simp [busyBit, busyMask]
  · cases hg

/-- A poll that fails or shows bit 0 clear ends the operation (R182). -/
theorem State.onPoll_st_of_ready {u : State} {got : Option Byte} (hready : ∀ b, got = some b → busyBit b = false) :
    (u.onPoll got).st = .idle := by
  cases got with
  | none => rfl
  | some b => simp [State.onPoll, hready b rfl]

/-- A poll of the device's link without a write cycle ends the operation, answered Ok or failed (R182). -/
theorem step_poll_ready {s t : State} {x : Draws} (hs : step s = .next t) (hst : s.st = .poll)
    (hlink : s.h = s.par.link) (hwip : s.dev.wip = false) (he : s.nextEvent = .transport x) : t.st = .idle := by
  rw [step_eq_of_transport he (emits_poll hst)] at hs
  rcases execRdsr1_next hs with ⟨ho, _⟩ | ⟨_, hrd1, _⟩ | ⟨_, _, rfl⟩
  · simp at ho
  · simp [hst] at hrd1
  · exact State.onPoll_st_of_ready fun b => gotStatus1_ready (by simp [State.attached, hlink]) hwip

/-! ### Answers left

Every answer brings an operation nearer its end: along its line always, and in POLL while a bound is ahead (R186). -/

/-- The most answers an operation still takes under a bound; before POLL it falls with every answer, whatever the
bound is. -/
def State.answersLeft (s : State) : Nat :=
  match s.st with
  | .idle => 0
  | .rd1 => s.par.pollBound + 4
  | .rd2 => s.par.pollBound + 3
  | .wren => s.par.pollBound + 2
  | .wrsr => s.par.pollBound + 1
  | .poll => s.par.pollBound - s.pcnt

/-- A bound is set, fits its register, and is ahead of the counter (R38, R44). -/
def BoundAhead (s : State) : Prop :=
  s.par.pollBound ≠ 0 ∧ s.par.pollBound < 2 ^ s.par.pollW ∧ PollCountBelowBound s

/-- While the bound is ahead the counter does not wrap. -/
theorem BoundAhead.pollsDone_eq {s : State} (hb : BoundAhead s) (hst : s.st = .poll) :
    s.pcnt < s.par.pollBound ∧ s.pollsDone = s.pcnt + 1 := by
  obtain ⟨hne, hlt, hpc⟩ := hb
  have hp := hpc hst hne
  exact ⟨hp, State.pollsDone_eq (by omega)⟩

/-- A poll that does not reach the bound leaves it ahead, and so does every other way to advance. -/
theorem BoundAhead.advances {s t : State} (hb : BoundAhead s) (hpar : t.par = s.par) (ha : Advances s t) :
    BoundAhead t := by
  have hcount := hb.pollsDone_eq
  obtain ⟨hne, hlt, _⟩ := hb
  refine ⟨hpar ▸ hne, hpar ▸ hlt, fun htst _ => ?_⟩
  rw [hpar]
  rcases ha with hline | ⟨_, _, hp⟩ | ⟨hst, _, hreach, hp⟩
  · simp [htst] at hline
  · omega
  · obtain ⟨hpc, hpd⟩ := hcount hst
    simp only [boundReached, decide_eq_false_iff_not, not_and] at hreach
    have := hreach hne
    omega

/-- An operation that advances has fewer answers left, unless it polls without a bound. -/
theorem Advances.answersLeft_lt {s t : State} (ha : Advances s t) (hpar : t.par = s.par)
    (hb : s.st = .poll → BoundAhead s) : t.answersLeft < s.answersLeft := by
  unfold State.answersLeft
  rcases ha with hline | ⟨hst, htst, hp⟩ | ⟨hst, htst, _, hp⟩
  · simp only [List.mem_cons, Prod.mk.injEq, List.not_mem_nil, or_false] at hline
    rcases hline with ⟨hst, htst⟩ | ⟨hst, htst⟩ | ⟨hst, htst⟩ <;> simp [hst, htst, hpar]
  · simp [hst, htst, hpar, hp]
  · obtain ⟨hpc, hpd⟩ := (hb hst).pollsDone_eq hst
    simp only [hst, htst, hpar, hp, hpd]
    omega

/-! ### Runs in which an operation never ends

The proof of O58 is by contradiction: in a run that is never in IDLE from `n` on, the transport answers again and
again, and nothing may fall with every answer. -/

section NeverIdle

variable {moves : Nat → Event} {r : Nat → State} {n : Nat}

/-- No reset can abandon an exchange, so the transport answers again and again. -/
theorem IsRun.answered_again (hr : IsRun moves r) (hresp : TransportResponsive moves r)
    (hact : ∀ m, n ≤ m → (r m).st ≠ .idle) {k : Nat} (hk : n ≤ k) : ∃ m, k ≤ m ∧ ∃ x, moves m = .transport x := by
  obtain ⟨m, hm, hx | ⟨l, x, he⟩⟩ := hresp k (by simpa [State.active] using hact k hk)
  · exact ⟨m, hm, hx⟩
  · exact absurd (step_reset_st (hr m) he) (hact (m + 1) (by omega))

/-- No measure falls with every answer and never rises, if the transport answers again and again. -/
theorem no_endless_descent (μ : Nat → Nat)
    (hans : ∀ k, n ≤ k → ∃ m, k ≤ m ∧ ∃ x, moves m = .transport x)
    (hle : ∀ m, n ≤ m → μ (m + 1) ≤ μ m)
    (hlt : ∀ m x, n ≤ m → moves m = .transport x → μ (m + 1) < μ m) : False := by
  induction hv : μ n using Nat.strong_induction_on generalizing n with
  | _ v ih =>
    obtain ⟨m, hm, x, hx⟩ := hans n (Nat.le_refl n)
    have hanti : μ m ≤ μ n := Nat.le_induction (Nat.le_refl _) (fun k hk h => (hle k hk).trans h) m hm
    have hfall := hlt m x hm hx
    exact ih (μ (m + 1)) (by omega) (fun k hk => hans k (by omega)) (fun k hk => hle k (by omega))
      (fun k x hk => hlt k x (by omega)) rfl

/-- One step of such a run. -/
theorem IsRun.step_of_neverIdle (hr : IsRun moves r) (hact : ∀ m, n ≤ m → (r m).st ≠ .idle) {m : Nat} (hm : n ≤ m) :
    (r (m + 1)).h = (r m).h ∧ (r (m + 1)).par = (r m).par ∧
      (((r (m + 1)).st = (r m).st ∧ (r (m + 1)).pcnt = (r m).pcnt ∧ ∀ x, moves m ≠ .transport x) ∨
        ((∃ x, moves m = .transport x) ∧ Advances (r m) (r (m + 1)))) :=
  step_of_active (hr m) (hact m hm) (hact (m + 1) (by omega))

/-- Never idle, the block polls without a bound ahead at some step: before that every answer is one fewer. -/
theorem IsRun.polls_without_bound (hr : IsRun moves r) (hresp : TransportResponsive moves r)
    (hact : ∀ m, n ≤ m → (r m).st ≠ .idle) : ∃ m, n ≤ m ∧ (r m).st = .poll ∧ ¬ BoundAhead (r m) := by
  by_contra hnone
  have hahead : ∀ m, n ≤ m → (r m).st = .poll → BoundAhead (r m) := fun m hm hst => by
    by_contra hb
    exact hnone ⟨m, hm, hst, hb⟩
  refine no_endless_descent (n := n) (fun m => (r m).answersLeft) (fun k => hr.answered_again hresp hact) ?_ ?_
  · intro m hm
    obtain ⟨_, hpar, ⟨hst, hp, _⟩ | ⟨_, hadv⟩⟩ := hr.step_of_neverIdle hact hm
    · simp [State.answersLeft, hpar, hst, hp]
    · exact (hadv.answersLeft_lt hpar (hahead m hm)).le
  · intro m x hm hx
    obtain ⟨_, hpar, ⟨_, _, hne⟩ | ⟨_, hadv⟩⟩ := hr.step_of_neverIdle hact hm
    · exact absurd hx (hne x)
    · exact hadv.answersLeft_lt hpar (hahead m hm)

/-- A bound that is ahead stays ahead, as long as the operation goes on. -/
theorem IsRun.boundAhead (hr : IsRun moves r) (hact : ∀ m, n ≤ m → (r m).st ≠ .idle) (hb : BoundAhead (r n)) :
    ∀ m, n ≤ m → BoundAhead (r m) := by
  refine Nat.le_induction hb fun m hm ih => ?_
  obtain ⟨_, hpar, ⟨hst, hp, _⟩ | ⟨_, hadv⟩⟩ := hr.step_of_neverIdle hact hm
  · unfold BoundAhead PollCountBelowBound at ih ⊢
    rwa [hpar, hst, hp]
  · exact ih.advances hpar hadv

/-- The operation keeps its handle, and the device its link. -/
theorem IsRun.onLink (hr : IsRun moves r) (hact : ∀ m, n ≤ m → (r m).st ≠ .idle) (hlink : (r n).h = (r n).par.link) :
    ∀ m, n ≤ m → (r m).h = (r m).par.link := by
  refine Nat.le_induction hlink fun m hm ih => ?_
  obtain ⟨hh, hpar, _⟩ := hr.step_of_neverIdle hact hm
  rw [hh, hpar, ih]

/-- A block that polls, and does not end, polls on. -/
theorem IsRun.polls_on (hr : IsRun moves r) (hact : ∀ m, n ≤ m → (r m).st ≠ .idle) (hst : (r n).st = .poll) :
    ∀ m, n ≤ m → (r m).st = .poll := by
  refine Nat.le_induction hst fun m hm ih => ?_
  obtain ⟨_, _, ⟨h, _, _⟩ | ⟨_, hadv⟩⟩ := hr.step_of_neverIdle hact hm
  · rw [h, ih]
  · rcases hadv with hline | ⟨h, _, _⟩ | ⟨_, h, _, _⟩
    · simp [ih] at hline
    · simp [ih] at h
    · exact h

/-- On a compliant device the write cycle is over at some step (R233). -/
theorem DeviceCompliant.wip_false (hc : DeviceCompliant moves r) (hr : IsRun moves r) (n : Nat) :
    ∃ m, n ≤ m ∧ (r m).dev.wip = false := by
  cases hw : (r n).dev.wip with
  | false => exact ⟨n, Nat.le_refl n, hw⟩
  | true =>
    obtain ⟨m, hm, he⟩ := hc n hw
    exact ⟨m + 1, by omega, step_commit_wip (hr m) he⟩

end NeverIdle

/-- An operation under a bound ends (R186). -/
theorem IsRun.ends_under_bound {moves : Nat → Event} {r : Nat → State} {n : Nat} (hr : IsRun moves r)
    (hresp : TransportResponsive moves r) (hb : BoundAhead (r n)) : ∃ m, n ≤ m ∧ (r m).st = .idle := by
  by_contra hnever
  have hact : ∀ m, n ≤ m → (r m).st ≠ .idle := fun m hm h => hnever ⟨m, hm, h⟩
  obtain ⟨m, hm, _, hnb⟩ := hr.polls_without_bound hresp hact
  exact hnb (hr.boundAhead hact hb m hm)

/-- An operation on a compliant device's link, with no other user on the transport, ends: it comes to poll, the write
cycle ends and no other begins, and the next answer is the last. -/
theorem IsRun.ends_on_compliant_device {moves : Nat → Event} {r : Nat → State} {n : Nat} (hr : IsRun moves r)
    (hresp : TransportResponsive moves r) (hc : DeviceCompliant moves r) (hlink : (r n).h = (r n).par.link)
    (hno : ∀ m, n ≤ m → ∀ handle tx k x, moves m ≠ .other handle tx k x) : ∃ m, n ≤ m ∧ (r m).st = .idle := by
  by_contra hnever
  have hact : ∀ m, n ≤ m → (r m).st ≠ .idle := fun m hm h => hnever ⟨m, hm, h⟩
  obtain ⟨p, hp, hpoll, _⟩ := hr.polls_without_bound hresp hact
  have hpolls := hr.polls_on (fun m hm => hact m (hp.trans hm)) hpoll
  obtain ⟨q, hq, hwip⟩ := hc.wip_false hr p
  have hready : ∀ m, q ≤ m → (r m).dev.wip = false := by
    refine Nat.le_induction hwip fun m hm ih => ?_
    exact step_poll_keeps_wip_false (hr m) (hpolls m (hq.trans hm)) (hact (m + 1) (by omega)) (hno m (by omega)) ih
  obtain ⟨m, hm, x, hx⟩ := hr.answered_again hresp hact (hp.trans hq)
  exact hact (m + 1) (by omega) (step_poll_ready (hr m) (hpolls m (hq.trans hm))
    (hr.onLink hact hlink m (by omega)) (hready m hm) hx)

/-- Settles O58: never idle, the block would poll for ever with no bound ahead (`IsRun.polls_without_bound`), which a
bound rules out in the first clause and the end of the write cycle in the second. -/
theorem responsiveOperationEnds : Obligations.ResponsiveOperationEnds := by
  unfold Obligations.ResponsiveOperationEnds
  intro moves r n hr hresp _
  exact ⟨fun hne hw hp => hr.ends_under_bound hresp ⟨hne, hw.pollBound_lt, hp⟩,
    fun hc hlink hno => hr.ends_on_compliant_device hresp hc hlink hno⟩

end Sys2Proof.Machine

namespace Sys2Proof.Machine

/-! ### What an exchange does to OP and to the record that an operation has begun

Only a start and a reset write OP, and only a start writes the record (R201, R300; log entry 6). -/

@[simp] theorem State.onRd1_op (u : State) (got : Option Byte) : (u.onRd1 got).op = u.op := by cases got <;> rfl
@[simp] theorem State.onRd1_begun (u : State) (got : Option Byte) : (u.onRd1 got).begun = u.begun := by
  cases got <;> rfl

@[simp] theorem State.onRd2_op (u : State) (got : Option Byte) : (u.onRd2 got).op = u.op := by cases got <;> rfl
@[simp] theorem State.onRd2_begun (u : State) (got : Option Byte) : (u.onRd2 got).begun = u.begun := by
  cases got <;> rfl

@[simp] theorem State.onWren_op (u : State) (a : Answer) : (u.onWren a).op = u.op := by cases a <;> rfl
@[simp] theorem State.onWren_begun (u : State) (a : Answer) : (u.onWren a).begun = u.begun := by cases a <;> rfl

@[simp] theorem State.onWrsr_op (u : State) (a : Answer) : (u.onWrsr a).op = u.op := by cases a <;> rfl
@[simp] theorem State.onWrsr_begun (u : State) (a : Answer) : (u.onWrsr a).begun = u.begun := by cases a <;> rfl

@[simp] theorem State.onPoll_op (u : State) (got : Option Byte) : (u.onPoll got).op = u.op := by
  rcases u.onPoll_cases got with ⟨_, h⟩ | ⟨_, _, _, h⟩ | ⟨_, _, _, _, h⟩ | ⟨_, _, _, _, h⟩ <;> simp [h]
@[simp] theorem State.onPoll_begun (u : State) (got : Option Byte) : (u.onPoll got).begun = u.begun := by
  rcases u.onPoll_cases got with ⟨_, h⟩ | ⟨_, _, _, h⟩ | ⟨_, _, _, _, h⟩ | ⟨_, _, _, _, h⟩ <;> simp [h]

/-- A state with an exchange is active (R109). -/
theorem st_ne_idle_of_emits {s : State} {i : Instr} (hem : s.emits = some i) : s.st ≠ .idle := by
  intro hidle
  simp [(s.emits_eq_none_iff).2 hidle] at hem

/-- A wire command keeps OP and the record that an operation has begun. -/
theorem exec_op_begun {i : Instr} {s t : State} (hx : exec i s = .next t)
    (hi : ∀ h, i ≠ .enterQuad h ∧ i ≠ .exitQuad h) : t.op = s.op ∧ t.begun = s.begun := by
  cases i with
  | rdsr1 => rcases execRdsr1_next hx with ⟨_, rfl⟩ | ⟨_, _, rfl⟩ | ⟨_, _, rfl⟩ <;> simp
  | rdsr2 => rcases execRdsr2_next hx with ⟨_, rfl⟩ | ⟨_, _, rfl⟩ <;> simp
  | wren => rcases execWren_next hx with ⟨_, ⟨_, rfl⟩ | ⟨_, _, rfl⟩⟩ <;> simp
  | wrsr a b => rcases execWrsr_next hx with ⟨_, ⟨_, rfl⟩ | ⟨_, _, rfl⟩⟩ <;> simp
  | enterQuad h => exact absurd rfl (hi h).1
  | exitQuad h => exact absurd rfl (hi h).2

/-! ### RES and MODE (O46) -/

/-- A state that reports nothing is consistent, whatever ST and OP are. -/
theorem ResultsConsistent.of_none {t : State} (hres : t.res = .none) (hmode : t.mode = .unknown) :
    ResultsConsistent t := by
  simp [ResultsConsistent, hres, hmode]

/-- A consistent state in mid-operation reports nothing. -/
theorem ResultsConsistent.none_of_active {s : State} (hc : ResultsConsistent s) (ha : s.st ≠ .idle) :
    s.res = .none ∧ s.mode = .unknown := by
  obtain ⟨hactive, _, hother⟩ := hc
  have hres : s.res = .none := hactive (by simpa [State.active] using ha)
  exact ⟨hres, hother (by simp [hres])⟩

/-- A step that writes OP is a start or a reset, and clears RES and MODE (R201, R300). -/
theorem step_op_kept_or_results_cleared {s t : State} (hs : step s = .next t) :
    t.op = s.op ∨ (t.res = .none ∧ t.mode = .unknown) := by
  rcases step_cases hs with ⟨o, h, _, rfl⟩ | ⟨l, x, _, hr⟩ | ⟨_, _, _, _, rfl⟩ | ⟨_, _, _, rfl⟩ |
    ⟨x, i, _, hem, hx⟩ | ⟨_, rfl⟩ | ⟨_, rfl⟩ | ⟨_, _, _, _, i, _, hd, hx⟩
  · rcases s.advance.start_cases (startedOp o) h with ⟨_, he⟩ | ⟨_, he⟩ <;> simp [he]
  · rcases takeReset_next hr with ⟨_, rfl⟩ | ⟨_, _, _, _, _, _, rfl⟩ <;> simp
  · exact .inl rfl
  · exact .inl rfl
  · exact .inl (exec_op_begun hx (emits_not_hostop hem)).1
  · exact .inl rfl
  · exact .inl rfl
  · exact .inl (exec_op_begun hx (decodeWire_ne_hostop hd)).1

/-- An exchange of the block that keeps OP keeps the results consistent: it aborts, completes, or leaves the cleared
results of the operation alone. -/
theorem ResultsConsistent.of_row {s t : State} {i : Instr} {r : Reply} (hc : ResultsConsistent s)
    (ha : s.st ≠ .idle) (hop : t.op = s.op) (hrow : Row s t i r) : ResultsConsistent t := by
  obtain ⟨hres, hmode⟩ := hc.none_of_active ha
  rcases hrow with ⟨_, hr, hm, hst⟩ | ⟨_, _, hr, hm, _⟩ | ⟨_, _, _, _, _, hr, hm, hst⟩ |
    ⟨_, _, _, _, _, _, hr, hm, hst⟩ | ⟨_, _, _, _, _, _, hr, hm, _⟩
  · simp [ResultsConsistent, State.active, hr, hm, hst]
  · exact .of_none (hr.trans hres) (hm.trans hmode)
  · simp [ResultsConsistent, State.active, hr, hm, hst, hop]
  · simp [ResultsConsistent, State.active, hr, hm, hst]
  · exact .of_none (hr.trans hres) (hm.trans hmode)

/-- Settles O46, by what a step does to ST, RES and MODE (`step_row`): a step that writes OP clears both results,
and under the same OP they are kept, or an exchange of the block sets them. -/
theorem resultAndModeStayConsistent : Obligations.ResultAndModeStayConsistent := by
  unfold Obligations.ResultAndModeStayConsistent
  intro s t hc hs
  rcases step_op_kept_or_results_cleared hs with hop | ⟨hres, hmode⟩
  · rcases step_row hs with ⟨hr, hm, hst, _⟩ | ⟨_, _, hr, hm, _⟩ | ⟨_, hr, hm, _⟩ | ⟨i, r, hem, _, hrow⟩
    · simpa [ResultsConsistent, State.active, hr, hm, hst, hop] using hc
    · exact .of_none hr hm
    · exact .of_none hr hm
    · exact hc.of_row (st_ne_idle_of_emits hem) hop hrow
  · exact .of_none hres hmode

/-! ### The poll counter (O47) -/

/-- From IDLE no step leads to POLL. -/
theorem step_idle_ne_poll {s t : State} (hs : step s = .next t) (hidle : s.st = .idle) : t.st ≠ .poll := by
  rcases step_row hs with ⟨_, _, hst, _⟩ | ⟨_, hst, _⟩ | ⟨hst, _⟩ | ⟨_, _, hem, _⟩
  · simp [hst, hidle]
  · simp [hst]
  · simp [hst]
  · exact absurd hidle (st_ne_idle_of_emits hem)

/-- An operation that advances to POLL has its counter below the bound: cleared, or one more than it was and not yet
at the bound. -/
theorem PollCountBelowBound.of_advances {s t : State} (hc : PollCountBelowBound s) (hpar : t.par = s.par)
    (hadv : Advances s t) : PollCountBelowBound t := by
  intro hpoll hne
  rw [hpar] at hne ⊢
  rcases hadv with hline | ⟨_, _, hzero⟩ | ⟨hst, _, hreach, hcount⟩
  · simp [hpoll] at hline
  · omega
  · have hlt := hc hst hne
    have hle := s.pollsDone_le
    have hnot : s.pollsDone ≠ s.par.pollBound := by simpa [boundReached, hne] using hreach
    omega

/-- Settles O47: POLL is entered and kept within an operation only, which keeps PCNT or advances. -/
theorem pollCounterStaysBelowBound : Obligations.PollCounterStaysBelowBound := by
  unfold Obligations.PollCounterStaysBelowBound
  intro s t hc hs hpoll
  have hactive : s.st ≠ .idle := fun hidle => step_idle_ne_poll hs hidle hpoll
  obtain ⟨_, hpar, ⟨hst, hpcnt, _⟩ | ⟨_, hadv⟩⟩ := step_of_active hs hactive (by simp [hpoll])
  · rw [hpar, hpcnt]
    exact hc (hst ▸ hpoll)
  · exact hc.of_advances hpar hadv hpoll

/-! ### No operation depends on what an earlier one left (O52)

The simulation relation is `AgreeOnLive`, and every operation of the model keeps it. RES and MODE are no part of it,
so `Alike` carries their agreement beside it, under a premise `P`. -/

/-- Two states that agree on everything live, and in RES and MODE too if `P` holds. -/
structure Alike (P : Prop) (s s' : State) : Prop extends AgreeOnLive s s' where
  results : P → s.res = s'.res ∧ s.mode = s'.mode

/-- Two outcomes of the same kind: alike states, or the same stop. -/
inductive AlikeResult (P : Prop) : Result → Result → Prop
  | next {t t' : State} (h : Alike P t t') : AlikeResult P (.next t) (.next t')
  | fault (f : Fault) : AlikeResult P (.fault f) (.fault f)
  | refused (r : Refusal) : AlikeResult P (.refused r) (.refused r)

/-! What the model reads of two such states is equal. -/

section Reads

variable {s s' : State}

theorem AgreeOnLive.nextEvent_eq (h : AgreeOnLive s s') : s.nextEvent = s'.nextEvent := by
  simp only [State.nextEvent, h.schedule, h.clock]

theorem AgreeOnLive.active_eq (h : AgreeOnLive s s') : s.active = s'.active := by
  simp only [State.active, h.st]

/-- A state emits a command made from live registers alone: S1, S2 and OP are sent in WRSR (R104, R109). -/
theorem AgreeOnLive.emits_eq (h : AgreeOnLive s s') : s.emits = s'.emits := by
  unfold State.emits
  rw [← h.st]
  cases hst : s.st with
  | wrsr => simp [h.s1 (by simp [hst]), h.s2 (by simp [hst]), h.op (by simp [hst])]
  | _ => rfl

theorem AgreeOnLive.pollsDone_eq (h : AgreeOnLive s s') (hst : s.st = .poll) : s.pollsDone = s'.pollsDone := by
  simp only [State.pollsDone, h.par, h.pcnt hst]

theorem AgreeOnLive.attached_eq (h : AgreeOnLive s s') : s.attached = s'.attached := by
  simp only [State.attached, h.bus, h.par]

theorem AgreeOnLive.arrives_eq (h : AgreeOnLive s s') : s.arrives = s'.arrives := by
  simp only [State.arrives, h.bus]

theorem AgreeOnLive.hitsBusy_eq (h : AgreeOnLive s s') : s.hitsBusy = s'.hitsBusy := by
  simp only [State.hitsBusy, h.attached_eq, h.dev, h.arrives_eq]

theorem AgreeOnLive.gotStatus1_eq (h : AgreeOnLive s s') : gotStatus1 s = gotStatus1 s' := by
  simp only [gotStatus1, State.received, h.attached_eq, h.dev, h.bus]

theorem AgreeOnLive.gotStatus2_eq (h : AgreeOnLive s s') : gotStatus2 s = gotStatus2 s' := by
  simp only [gotStatus2, State.received, h.attached_eq, h.dev, h.bus]

theorem AgreeOnLive.devAfter_eq (h : AgreeOnLive s s') (i : Instr) : s.devAfter i = s'.devAfter i := by
  cases i <;> simp only [State.devAfter, State.devAfterRead, State.devAfterWren, State.devAfterWrsr, h.attached_eq,
    h.arrives_eq, h.dev, h.bus]

end Reads

/-! Every update of the state keeps the relation. -/

section Updates

variable {P : Prop} {s s' : State}

theorem Alike.advance (h : Alike P s s') : Alike P s.advance s'.advance :=
  { h with schedule := congrArg List.tail h.schedule, clock := congrArg (· + 1) h.clock }

theorem Alike.withBus (h : Alike P s s') (b : Bus) : Alike P (s.withBus b) (s'.withBus b) :=
  { h with bus := rfl }

theorem Alike.wait (h : Alike P s s') : Alike P s.wait s'.wait :=
  { h with outstanding := h.active_eq }

theorem Alike.commit (h : Alike P s s') : Alike P s.commit s'.commit :=
  { h with dev := by simp [h.dev, h.par] }

theorem Alike.setBound (h : Alike P s s') (n : Nat) : Alike P (s.setBound n) (s'.setBound n) :=
  { h with par := by simp [h.par] }

theorem Alike.settle (h : Alike P s s') (d : Device) (i : Instr) (reply : Reply) :
    Alike P (s.settle d i reply) (s'.settle d i reply) :=
  { h with
    dev := rfl
    trace := by simp [h.bus, h.trace]
    outstanding := by simp [h.bus, h.outstanding] }

/-- In IDLE nothing that a reset leaves is live. -/
theorem Alike.resetBlock (h : Alike P s s') (l : Leftover) : Alike P (s.resetBlock l) (s'.resetBlock l) :=
  { h with
    st := rfl, outstanding := rfl, op := nofun, h := nofun, s1 := nofun, s2 := nofun, pcnt := nofun
    results := fun _ => ⟨rfl, rfl⟩ }

theorem Alike.abort (h : Alike P s s') (e : Res) : Alike P (s.abort e) (s'.abort e) :=
  { h with
    st := rfl, op := nofun, h := nofun, s1 := nofun, s2 := nofun, pcnt := nofun
    results := fun _ => ⟨rfl, rfl⟩ }

/-- Completion reads OP, which is live until then (R154). -/
theorem Alike.complete (h : Alike P s s') (ha : s.st ≠ .idle) : Alike P s.complete s'.complete :=
  { h with
    st := rfl, op := nofun, h := nofun, s1 := nofun, s2 := nofun, pcnt := nofun
    results := fun _ => ⟨rfl, congrArg completedMode (h.op ha)⟩ }

/-- A start writes OP and H; S1, S2 and PCNT are not live in RD1. -/
theorem Alike.begin (h : Alike P s s') (op : Op) (handle : Handle) :
    Alike P (s.begin op handle) (s'.begin op handle) :=
  { h with
    st := rfl, begun := rfl, op := fun _ => rfl, h := fun _ => by simp [h.par], s1 := nofun, s2 := nofun, pcnt := nofun
    results := fun _ => ⟨rfl, rfl⟩ }

theorem Alike.start (h : Alike P s s') (op : Op) (handle : Handle) :
    Alike P (s.start op handle) (s'.start op handle) := by
  unfold State.start
  rw [← h.st]
  split
  · exact h.begin op handle
  · exact h

/-! Each transition on an answered exchange writes what becomes live in the state it leads to. -/

theorem Alike.onRd1 (h : Alike P s s') (hst : s.st = .rd1) (got : Option Byte) :
    Alike P (s.onRd1 got) (s'.onRd1 got) := by
  cases got with
  | none => exact h.abort _
  | some b =>
    exact { h with
      st := rfl, op := fun _ => h.op (by simp [hst]), h := fun _ => h.h (by simp [hst])
      s1 := fun _ => rfl, s2 := nofun, pcnt := nofun }

theorem Alike.onRd2 (h : Alike P s s') (hst : s.st = .rd2) (got : Option Byte) :
    Alike P (s.onRd2 got) (s'.onRd2 got) := by
  cases got with
  | none => exact h.abort _
  | some b =>
    exact { h with
      st := rfl, op := fun _ => h.op (by simp [hst]), h := fun _ => h.h (by simp [hst])
      s1 := fun _ => h.s1 (by simp [hst]), s2 := fun _ => rfl, pcnt := nofun }

theorem Alike.onWren (h : Alike P s s') (hst : s.st = .wren) (a : Answer) :
    Alike P (s.onWren a) (s'.onWren a) := by
  cases a with
  | fail => exact h.abort _
  | ok =>
    exact { h with
      st := rfl, op := fun _ => h.op (by simp [hst]), h := fun _ => h.h (by simp [hst])
      s1 := fun _ => h.s1 (by simp [hst]), s2 := fun _ => h.s2 (by simp [hst]), pcnt := nofun }

theorem Alike.onWrsr (h : Alike P s s') (hst : s.st = .wrsr) (a : Answer) :
    Alike P (s.onWrsr a) (s'.onWrsr a) := by
  cases a with
  | fail => exact h.abort _
  | ok =>
    exact { h with
      st := rfl, op := fun _ => h.op (by simp [hst]), h := fun _ => h.h (by simp [hst])
      s1 := nofun, s2 := nofun, pcnt := fun _ => rfl }

theorem Alike.onPoll (h : Alike P s s') (hst : s.st = .poll) (got : Option Byte) :
    Alike P (s.onPoll got) (s'.onPoll got) := by
  cases got with
  | none => exact h.abort _
  | some b =>
    have hcount := h.pollsDone_eq hst
    have hbound : boundReached s'.par.pollBound s'.pollsDone = boundReached s.par.pollBound s.pollsDone := by
      rw [h.par, hcount]
    simp only [State.onPoll]
    rw [hbound]
    split
    · exact h.complete (by simp [hst])
    · split
      · exact h.abort _
      · exact { h with pcnt := fun _ => hcount }

end Updates

/-! Instructions, reset and the supply of the bound answer alike. -/

section Outcomes

variable {P : Prop} {s s' : State}

/-- The exchange on the port is over, with the same effect on the device. -/
theorem Alike.settle_devAfter (h : Alike P s s') (i : Instr) (reply : Reply) :
    Alike P (s.settle (s.devAfter i) i reply) (s'.settle (s'.devAfter i) i reply) := by
  rw [h.devAfter_eq i]
  exact h.settle _ i reply

theorem Alike.execRdsr1 (h : Alike P s s') : AlikeResult P (execRdsr1 s) (execRdsr1 s') := by
  have hover := h.settle_devAfter .rdsr1 (readReply (gotStatus1 s))
  have hgot : s'.received (s'.dev.status1 s'.bus.draws) = gotStatus1 s := h.gotStatus1_eq.symm
  simp only [Machine.execRdsr1]
  rw [hgot, ← h.bus, ← h.st]
  cases s.bus.master with
  | other => exact .next hover
  | block =>
    cases hst : s.st with
    | rd1 => exact .next (hover.onRd1 hst _)
    | poll => exact .next (hover.onPoll hst _)
    | _ => exact .fault _

theorem Alike.execRdsr2 (h : Alike P s s') : AlikeResult P (execRdsr2 s) (execRdsr2 s') := by
  have hover := h.settle_devAfter .rdsr2 (readReply (gotStatus2 s))
  have hgot : s'.received (s'.dev.status2 s'.bus.draws) = gotStatus2 s := h.gotStatus2_eq.symm
  simp only [Machine.execRdsr2]
  rw [hgot, ← h.bus, ← h.st]
  cases s.bus.master with
  | other => exact .next hover
  | block =>
    cases hst : s.st with
    | rd2 => exact .next (hover.onRd2 hst _)
    | _ => exact .fault _

/-- A write-type command is refused at a busy device on both sides or on neither (R243). -/
theorem AlikeResult.refused_of_hitsBusy (h : AgreeOnLive s s') {t t' : State} (ht : Alike P t t') :
    AlikeResult P (if s.hitsBusy then .refused .deviceBusy else .next t)
      (if s'.hitsBusy then .refused .deviceBusy else .next t') := by
  rw [← h.hitsBusy_eq]
  split
  · exact .refused _
  · exact .next ht

theorem Alike.execWren (h : Alike P s s') : AlikeResult P (execWren s) (execWren s') := by
  have hover := h.settle_devAfter .wren (sendReply s.bus.draws.answer)
  simp only [Machine.execWren, ← h.bus, ← h.st]
  cases s.bus.master with
  | other => exact .refused_of_hitsBusy h.toAgreeOnLive hover
  | block =>
    cases hst : s.st with
    | wren => exact .refused_of_hitsBusy h.toAgreeOnLive (hover.onWren hst _)
    | _ => exact .fault _

theorem Alike.execWrsr (h : Alike P s s') (a b : Byte) : AlikeResult P (execWrsr a b s) (execWrsr a b s') := by
  have hover := h.settle_devAfter (.wrsr a b) (sendReply s.bus.draws.answer)
  simp only [Machine.execWrsr, ← h.bus, ← h.emits_eq]
  cases s.bus.master with
  | other => exact .refused_of_hitsBusy h.toAgreeOnLive hover
  | block =>
    dsimp only
    split
    · next hem =>
      have hst := ((s.emits_wrsr_iff a b).1 hem).1
      exact .refused_of_hitsBusy h.toAgreeOnLive (hover.onWrsr hst _)
    · exact .fault _

theorem Alike.exec (h : Alike P s s') (i : Instr) : AlikeResult P (exec i s) (exec i s') := by
  cases i with
  | rdsr1 => exact h.execRdsr1
  | rdsr2 => exact h.execRdsr2
  | wren => exact h.execWren
  | wrsr a b => exact h.execWrsr a b
  | enterQuad handle => exact .next (h.start _ handle)
  | exitQuad handle => exact .next (h.start _ handle)

/-- A reset abandons the same exchange on both sides, on the same handle: H is live while one is outstanding. -/
theorem Alike.takeReset (h : Alike P s s') (l : Leftover) (x : Draws) :
    AlikeResult P (takeReset s l x) (takeReset s' l x) := by
  unfold Machine.takeReset
  rw [← h.outstanding, ← h.emits_eq]
  split
  · next i _ hem =>
    have hport := h.withBus ⟨.block, s.h, { x with answer := .fail }⟩
    simp only [← h.h (st_ne_idle_of_emits hem), ← hport.hitsBusy_eq]
    split
    · exact .refused _
    · exact .next ((hport.settle_devAfter i .abandoned).resetBlock l)
  · exact .next (h.resetBlock l)

theorem Alike.takeBound (h : Alike P s s') (n : Nat) : AlikeResult P (takeBound s n) (takeBound s' n) := by
  unfold Machine.takeBound
  rw [← h.active_eq, ← h.begun]
  split
  · exact .refused _
  · exact .next (h.setBound n)

/-- Alike states step alike. -/
theorem Alike.step (h : Alike P s s') : AlikeResult P (step s) (step s') := by
  have hadv := h.advance
  unfold Machine.step fetch
  rw [← h.nextEvent_eq]
  cases s.nextEvent with
  | start op handle => exact hadv.exec (decodeHost op handle)
  | reset l x => exact hadv.takeReset l x
  | setBound n => exact hadv.takeBound n
  | transport x =>
    rw [← h.emits_eq]
    cases hem : s.emits with
    | none => exact .next hadv
    | some i =>
      simp only [decode_of_emits hem, ← h.h (st_ne_idle_of_emits hem)]
      exact (hadv.withBus _).exec i
  | silence => exact .next hadv.wait
  | commit => exact .next hadv.commit
  | other handle tx k x =>
    simp only [decode, ← h.par]
    cases decodeWire tx k with
    | error why => exact .refused _
    | ok i => exact (hadv.withBus _).exec i

end Outcomes

theorem AlikeResult.of_next {P : Prop} {r : Result} {t : State} (h : AlikeResult P (.next t) r) :
    ∃ t', r = .next t' ∧ Alike P t t' := by
  cases h with
  | next h => exact ⟨_, rfl, h⟩

theorem AlikeResult.of_refused {P : Prop} {r : Result} {why : Refusal} (h : AlikeResult P (.refused why) r) :
    r = .refused why := by
  cases h
  rfl

/-- Settles O52: states that agree on everything live step alike (`Alike.step`), with the agreement of RES and MODE
carried along if they agree. -/
theorem staleRegistersNeverMatter : Obligations.StaleRegistersNeverMatter := by
  unfold Obligations.StaleRegistersNeverMatter
  intro s s' hagree
  have halike := (Alike.mk (P := s.res = s'.res ∧ s.mode = s'.mode) hagree id).step
  constructor
  · intro t hs
    rw [hs] at halike
    obtain ⟨t', hs', h⟩ := halike.of_next
    exact ⟨t', hs', h.toAgreeOnLive, h.results⟩
  · intro r hs
    rw [hs] at halike
    exact halike.of_refused

/-! ### What a delivered read shows (O23) -/

/-- What the device answers to the command that reads a location (R222, R223). -/
def Device.answer (d : Device) (x : Draws) : Loc → Byte
  | .sr1 => d.status1 x
  | .sr2 => d.status2 x

/-- A read leaves in the trace what it brought its issuer, the block or another user. -/
theorem exec_readCommand_reply {s t : State} {l : Loc} (hx : exec l.readCommand s = .next t) :
    t.trace.head?.map (·.reply) = some (readReply (s.received (s.dev.answer s.bus.draws l))) := by
  cases l with
  | sr1 =>
    rcases execRdsr1_next hx with ⟨_, rfl⟩ | ⟨_, _, rfl⟩ | ⟨_, _, rfl⟩ <;> simp [State.onRead_trace] <;> rfl
  | sr2 =>
    rcases execRdsr2_next hx with ⟨_, rfl⟩ | ⟨_, _, rfl⟩ <;> simp [State.onRead_trace] <;> rfl

/-- An answered read on the device's link brings the device's answer (R73). -/
theorem State.received_of_attached {s : State} (hlink : s.bus.handle = s.par.link) (hok : s.bus.draws.answer = .ok)
    (b : Byte) : s.received b = some b := by
  simp [State.received, State.attached, hlink, hok]

/-- Bit 0 of Status1 is WIP, busy or not (R46, R222). -/
theorem Device.status1_busyBit (d : Device) (x : Draws) : (d.status1 x).getLsbD 0 = d.wip := by
  unfold Device.status1
  cases d.wip <;> simp [busyMask]

/-- Without a write cycle every bit of an answer but bit 0 of Status1 is the stored one (R222, R223). -/
theorem Device.answer_getLsbD {d : Device} (hwip : d.wip = false) (x : Draws) {l : Loc} {n : Nat}
    (hn : l = .sr2 ∨ n ≠ 0) : (d.answer x l).getLsbD n = (d.stored l).getLsbD n := by
  cases l with
  | sr1 =>
    have hne : n ≠ 0 := by simpa using hn
    have hmask : busyMask.getLsbD n = false := by simp [busyMask, BitVec.getLsbD_one, hne]
    have hwidth : d.n1.getLsbD n = true → n < 8 := BitVec.lt_of_getLsbD
    simpa [Device.answer, Device.stored, Device.status1, hwip, hmask] using hwidth
  | sr2 => simp [Device.answer, Device.stored, Device.status2, hwip]

/-- Settles O23: the byte in the trace is the device's answer. -/
theorem deliveredReadShowsWipAndStoredBits : Obligations.DeliveredReadShowsWipAndStoredBits := by
  unfold Obligations.DeliveredReadShowsWipAndStoredBits
  intro s t l hlink hok hx
  refine ⟨s.dev.answer s.bus.draws l, ?_, ?_, fun hwip n hn => Device.answer_getLsbD hwip _ hn⟩
  · rw [exec_readCommand_reply hx, State.received_of_attached hlink hok]
    rfl
  · rintro rfl
    exact s.dev.status1_busyBit _

/-! ### The configuration and the record that an operation has begun (O40) -/

/-- Only the supply of POLL_BOUND changes the configuration, in IDLE before the first operation, and it changes
nothing else of it (R209). -/
theorem step_par_kept_or_bound_supplied {s t : State} (hs : step s = .next t) :
    t.par = s.par ∨ (s.st = .idle ∧ s.begun = false ∧ ∃ n, t.par = { s.par with pollBound := n }) := by
  rcases step_cases hs with ⟨o, h, _, rfl⟩ | ⟨l, x, _, hr⟩ | ⟨_, _, hidle, hbegun, rfl⟩ | ⟨_, _, _, rfl⟩ |
    ⟨_, _, _, _, hx⟩ | ⟨_, rfl⟩ | ⟨_, rfl⟩ | ⟨_, _, _, _, _, _, _, hx⟩
  · exact .inl (State.start_environment _ _ _).2.1
  · rcases takeReset_next hr with ⟨_, rfl⟩ | ⟨_, _, _, _, rfl, _, rfl⟩ <;> exact .inl rfl
  · exact .inr ⟨hidle, hbegun, _, rfl⟩
  · exact .inl rfl
  · exact .inl (exec_dev hx).2
  · exact .inl rfl
  · exact .inl rfl
  · exact .inl (exec_dev hx).2

/-- Only a start taken in IDLE writes the record that an operation has begun, and no other step leaves IDLE (R201;
log entry 6). -/
theorem step_begun_kept_or_started {s t : State} (hs : step s = .next t) :
    (t.begun = s.begun ∧ (t.st ≠ .idle → s.st ≠ .idle)) ∨ t.begun = true := by
  rcases step_cases hs with ⟨o, h, _, rfl⟩ | ⟨l, x, he, hr⟩ | ⟨_, _, _, _, rfl⟩ | ⟨_, _, _, rfl⟩ |
    ⟨_, i, _, hem, hx⟩ | ⟨_, rfl⟩ | ⟨_, rfl⟩ | ⟨_, _, _, _, _, _, hd, hx⟩
  · rcases s.advance.start_cases (startedOp o) h with ⟨_, hk⟩ | ⟨_, hk⟩ <;> simp [hk]
  · rcases takeReset_next hr with ⟨_, rfl⟩ | ⟨_, _, _, _, rfl, _, rfl⟩ <;> simp
  · exact .inl ⟨rfl, id⟩
  · exact .inl ⟨rfl, id⟩
  · exact .inl ⟨(exec_op_begun hx (emits_not_hostop hem)).2, fun _ => st_ne_idle_of_emits hem⟩
  · exact .inl ⟨rfl, id⟩
  · exact .inl ⟨rfl, id⟩
  · have hi := decodeWire_ne_hostop hd
    rcases exec_row hx hi with ⟨_, _, _, hst, _⟩ | ⟨hb, _⟩
    · exact .inl ⟨(exec_op_begun hx hi).2, fun h => hst ▸ h⟩
    · simp at hb

/-- Settles O40, by what a step does to the configuration and to the record. -/
theorem configurationConstantWhileActive : Obligations.ConfigurationConstantWhileActive := by
  unfold Obligations.ConfigurationConstantWhileActive
  intro s t hs
  have hbound : s.st ≠ .idle ∨ s.begun = true → t.par = s.par := by
    rcases step_par_kept_or_bound_supplied hs with h | ⟨hidle, hbegun, _⟩
    · exact fun _ => h
    · simp [hidle, hbegun]
  have hkept : s.begun = true → t.begun = true := by
    rcases step_begun_kept_or_started hs with ⟨h, _⟩ | h
    · exact h.trans
    · exact fun _ => h
  have hrecorded : t.st ≠ .idle → s.st ≠ .idle ∨ t.begun = true := fun ht => by
    rcases step_begun_kept_or_started hs with ⟨_, h⟩ | h
    · exact .inl (h ht)
    · exact .inr h
  refine ⟨hbound, hkept, hrecorded, ?_⟩
  rcases step_par_kept_or_bound_supplied hs with h | ⟨_, _, n, h⟩ <;> simp [h]

/-! ### The codes (O2) -/

/-- The code 3 names no mode (R42). -/
theorem Mode.code_ne_three (m : Mode) : m.code ≠ 3 := by cases m <;> decide

/-- Settles O2: the codes and the outputs are the model's by definition, and no mode has the code 3. -/
theorem codesOfRegistersAndOutputs : Obligations.CodesOfRegistersAndOutputs := by
  unfold Obligations.CodesOfRegistersAndOutputs
  exact ⟨rfl, rfl, rfl, rfl, Mode.code_ne_three, fun _ => rfl⟩

end Sys2Proof.Machine

namespace Sys2Proof.Machine

/-! ### What a wire command leaves unchanged

The FSM's transitions on an answered exchange touch neither the schedule nor the clock; S1 is written in RD1 alone and
S2 in RD2 alone (R131, R132). -/

@[simp] theorem State.onRd1_kept (u : State) (got : Option Byte) :
    (u.onRd1 got).schedule = u.schedule ∧ (u.onRd1 got).clock = u.clock ∧ (u.onRd1 got).s2 = u.s2 := by
  cases got <;> exact ⟨rfl, rfl, rfl⟩

@[simp] theorem State.onRd2_kept (u : State) (got : Option Byte) :
    (u.onRd2 got).schedule = u.schedule ∧ (u.onRd2 got).clock = u.clock ∧ (u.onRd2 got).s1 = u.s1 := by
  cases got <;> exact ⟨rfl, rfl, rfl⟩

@[simp] theorem State.onPoll_kept (u : State) (got : Option Byte) :
    (u.onPoll got).schedule = u.schedule ∧ (u.onPoll got).clock = u.clock ∧
      (u.onPoll got).s1 = u.s1 ∧ (u.onPoll got).s2 = u.s2 := by
  rcases u.onPoll_cases got with ⟨_, h⟩ | ⟨_, _, _, h⟩ | ⟨_, _, _, _, h⟩ | ⟨_, _, _, _, h⟩ <;> simp [h]

@[simp] theorem State.onWren_kept (u : State) (a : Answer) :
    (u.onWren a).schedule = u.schedule ∧ (u.onWren a).clock = u.clock ∧
      (u.onWren a).s1 = u.s1 ∧ (u.onWren a).s2 = u.s2 := by
  cases a <;> exact ⟨rfl, rfl, rfl, rfl⟩

@[simp] theorem State.onWrsr_kept (u : State) (a : Answer) :
    (u.onWrsr a).schedule = u.schedule ∧ (u.onWrsr a).clock = u.clock ∧
      (u.onWrsr a).s1 = u.s1 ∧ (u.onWrsr a).s2 = u.s2 := by
  cases a <;> exact ⟨rfl, rfl, rfl, rfl⟩

/-- A wire command consumes no move of its own. -/
theorem exec_schedule_clock {i : Instr} {s t : State} (hx : exec i s = .next t)
    (hi : ∀ h, i ≠ .enterQuad h ∧ i ≠ .exitQuad h) : t.schedule = s.schedule ∧ t.clock = s.clock := by
  cases i with
  | rdsr1 => rcases execRdsr1_next hx with ⟨_, rfl⟩ | ⟨_, _, rfl⟩ | ⟨_, _, rfl⟩ <;> simp
  | rdsr2 => rcases execRdsr2_next hx with ⟨_, rfl⟩ | ⟨_, _, rfl⟩ <;> simp
  | wren => rcases execWren_next hx with ⟨_, ⟨_, rfl⟩ | ⟨_, _, rfl⟩⟩ <;> simp
  | wrsr a b => rcases execWrsr_next hx with ⟨_, ⟨_, rfl⟩ | ⟨_, _, rfl⟩⟩ <;> simp
  | enterQuad h => exact absurd rfl (hi h).1
  | exitQuad h => exact absurd rfl (hi h).2

/-- A wire command adds one entry to the trace (R19). -/
theorem exec_trace_cons {i : Instr} {s t : State} (hx : exec i s = .next t)
    (hi : ∀ h, i ≠ .enterQuad h ∧ i ≠ .exitQuad h) : ∃ x, t.trace = x :: s.trace := by
  rcases exec_row hx hi with ⟨_, _, _, _, x, htrace, _⟩ | ⟨_, _, r, htrace, _⟩
  · exact ⟨x, htrace⟩
  · exact ⟨_, htrace⟩

/-- Another user's wire command does no more than end its exchange: the block has no part in it (R207, U6). -/
theorem exec_of_other {i : Instr} {s t : State} (hx : exec i s = .next t)
    (hi : ∀ h, i ≠ .enterQuad h ∧ i ≠ .exitQuad h) (ho : s.bus.master = .other) :
    ∃ reply, t = s.settle (s.devAfter i) i reply := by
  cases i with
  | rdsr1 =>
    rcases execRdsr1_next hx with ⟨_, rfl⟩ | ⟨hb, _⟩ | ⟨hb, _⟩
    · exact ⟨_, rfl⟩
    · simp [ho] at hb
    · simp [ho] at hb
  | rdsr2 =>
    rcases execRdsr2_next hx with ⟨_, rfl⟩ | ⟨hb, _⟩
    · exact ⟨_, rfl⟩
    · simp [ho] at hb
  | wren =>
    rcases execWren_next hx with ⟨_, ⟨_, rfl⟩ | ⟨hb, _⟩⟩
    · exact ⟨_, rfl⟩
    · simp [ho] at hb
  | wrsr a b =>
    rcases execWrsr_next hx with ⟨_, ⟨_, rfl⟩ | ⟨hb, _⟩⟩
    · exact ⟨_, rfl⟩
    · simp [ho] at hb
  | enterQuad h => exact absurd rfl (hi h).1
  | exitQuad h => exact absurd rfl (hi h).2

/-- An exchange of another user leaves the block's exchange as outstanding as it was. -/
theorem State.settle_outstanding_of_other {s : State} (ho : s.bus.master = .other) (d : Device) (i : Instr)
    (reply : Reply) : (s.settle d i reply).outstanding = s.outstanding := by
  simp [ho]

/-- Only Read Status1 in RD1 writes S1 (R131). -/
theorem exec_s1_kept_or_rd1 {i : Instr} {s t : State} (hx : exec i s = .next t)
    (hi : ∀ h, i ≠ .enterQuad h ∧ i ≠ .exitQuad h) : t.s1 = s.s1 ∨ (i = .rdsr1 ∧ s.st = .rd1) := by
  cases i with
  | rdsr1 =>
    rcases execRdsr1_next hx with ⟨_, rfl⟩ | ⟨_, hst, _⟩ | ⟨_, _, rfl⟩
    · exact .inl rfl
    · exact .inr ⟨rfl, hst⟩
    · simp
  | rdsr2 => rcases execRdsr2_next hx with ⟨_, rfl⟩ | ⟨_, _, rfl⟩ <;> simp
  | wren => rcases execWren_next hx with ⟨_, ⟨_, rfl⟩ | ⟨_, _, rfl⟩⟩ <;> simp
  | wrsr a b => rcases execWrsr_next hx with ⟨_, ⟨_, rfl⟩ | ⟨_, _, rfl⟩⟩ <;> simp
  | enterQuad h => exact absurd rfl (hi h).1
  | exitQuad h => exact absurd rfl (hi h).2

/-- Only Read Status2 in RD2 writes S2 (R132). -/
theorem exec_s2_kept_or_rd2 {i : Instr} {s t : State} (hx : exec i s = .next t)
    (hi : ∀ h, i ≠ .enterQuad h ∧ i ≠ .exitQuad h) : t.s2 = s.s2 ∨ (i = .rdsr2 ∧ s.st = .rd2) := by
  cases i with
  | rdsr1 => rcases execRdsr1_next hx with ⟨_, rfl⟩ | ⟨_, _, rfl⟩ | ⟨_, _, rfl⟩ <;> simp
  | rdsr2 =>
    rcases execRdsr2_next hx with ⟨_, rfl⟩ | ⟨_, hst, _⟩
    · exact .inl rfl
    · exact .inr ⟨rfl, hst⟩
  | wren => rcases execWren_next hx with ⟨_, ⟨_, rfl⟩ | ⟨_, _, rfl⟩⟩ <;> simp
  | wrsr a b => rcases execWrsr_next hx with ⟨_, ⟨_, rfl⟩ | ⟨_, _, rfl⟩⟩ <;> simp
  | enterQuad h => exact absurd rfl (hi h).1
  | exitQuad h => exact absurd rfl (hi h).2

/-- Only the poll, a Read Status1, and Write Status write PCNT (R134, R182). -/
theorem exec_pcnt_kept_or_poll_or_wrsr {i : Instr} {s t : State} (hx : exec i s = .next t)
    (hi : ∀ h, i ≠ .enterQuad h ∧ i ≠ .exitQuad h) :
    t.pcnt = s.pcnt ∨ (i = .rdsr1 ∧ s.st = .poll) ∨ ∃ a b, i = .wrsr a b := by
  rcases exec_row hx hi with ⟨ho, _⟩ | ⟨_, hem, _⟩
  · obtain ⟨_, rfl⟩ := exec_of_other hx hi ho
    exact .inl rfl
  · rcases exec_pcnt hx hi with ⟨h, _⟩ | ⟨_, hst, _⟩ | ⟨_, hst, _⟩
    · exact .inl h
    · simp only [State.emits, hst, Option.some.injEq] at hem
      exact .inr (.inr ⟨_, _, hem.symm⟩)
    · simp only [emits_poll hst, Option.some.injEq] at hem
      exact .inr (.inl ⟨hem.symm, hst⟩)

/-! ### Another link (O24) -/

/-- An instruction on a link that is not the device's has no effect on the device (R74; log entry 4). -/
theorem State.devAfter_of_not_attached {s : State} (h : s.attached = false) (i : Instr) : s.devAfter i = s.dev := by
  cases i <;> simp [State.devAfter, State.devAfterRead, State.devAfterWren, State.devAfterWrsr, h]

/-- An answered read on another link brings the draw (R74). -/
theorem State.received_of_not_attached {s : State} (h : s.attached = false) (hok : s.bus.draws.answer = .ok)
    (b : Byte) : s.received b = some s.bus.draws.byte := by
  simp [State.received, h, hok]

/-- The read commands are those that read a location (R16, R70). -/
theorem exists_loc_readCommand {i : Instr} (hi : i = .rdsr1 ∨ i = .rdsr2) : ∃ l : Loc, i = l.readCommand := by
  rcases hi with rfl | rfl
  · exact ⟨.sr1, rfl⟩
  · exact ⟨.sr2, rfl⟩

/-- Settles O24: off the device's link an exchange has no effect on the device, and what a read brings, and leaves in
the trace, is the draw. -/
theorem otherLinkLeavesTheDevice : Obligations.OtherLinkLeavesTheDevice := by
  unfold Obligations.OtherLinkLeavesTheDevice
  intro s t i hlink hx
  have hoff : s.attached = false := by simpa [State.attached] using hlink
  refine ⟨by rw [(exec_dev hx).1, State.devAfter_of_not_attached hoff], fun hok hread => ?_⟩
  obtain ⟨l, rfl⟩ := exists_loc_readCommand hread
  rw [exec_readCommand_reply hx, State.received_of_not_attached hoff hok]
  rfl

/-! ### The frames of the wire commands (O25, O26) -/

/-- A read never raises WEL (R228, R236). -/
theorem State.devAfterRead_wel_of_false {s : State} (h : s.dev.wel = false) : s.devAfterRead.wel = false := by
  unfold State.devAfterRead
  split <;> simp [Device.afterRead_eq, h]

theorem State.devAfter_readCommand (s : State) (l : Loc) : s.devAfter l.readCommand = s.devAfterRead := by
  cases l <;> rfl

/-- A wire command changes no stored byte, and neither the configuration, the port, the environment's moves, OP
nor H; it adds one entry to the trace. -/
theorem exec_frame {i : Instr} {s t : State} (hx : exec i s = .next t)
    (hi : ∀ h, i ≠ .enterQuad h ∧ i ≠ .exitQuad h) :
    (∀ l, t.dev.stored l = s.dev.stored l) ∧ t.par = s.par ∧ t.bus = s.bus ∧ t.schedule = s.schedule ∧
      t.clock = s.clock ∧ t.op = s.op ∧ t.h = s.h ∧ ∃ x, t.trace = x :: s.trace := by
  obtain ⟨hdev, hpar⟩ := exec_dev hx
  obtain ⟨hh, hbus⟩ := exec_h_bus hx hi
  obtain ⟨hsched, hclock⟩ := exec_schedule_clock hx hi
  exact ⟨fun l => hdev ▸ s.devAfter_stored i l, hpar, hbus, hsched, hclock, (exec_op_begun hx hi).1, hh,
    exec_trace_cons hx hi⟩

/-- Of another user's wire command the block sees nothing (R207). -/
theorem exec_block_kept_of_other {i : Instr} {s t : State} (hx : exec i s = .next t)
    (hi : ∀ h, i ≠ .enterQuad h ∧ i ≠ .exitQuad h) (ho : s.bus.master = .other) :
    t.st = s.st ∧ t.s1 = s.s1 ∧ t.s2 = s.s2 ∧ t.pcnt = s.pcnt ∧ t.res = s.res ∧ t.mode = s.mode ∧
      t.outstanding = s.outstanding := by
  obtain ⟨reply, rfl⟩ := exec_of_other hx hi ho
  exact ⟨rfl, rfl, rfl, rfl, rfl, rfl, State.settle_outstanding_of_other ho _ _ _⟩

/-- Settles O25, from the frame of every wire command, the device after a read, and who writes S1, S2 and PCNT. -/
theorem readCommandsFrame : Obligations.ReadCommandsFrame := by
  unfold Obligations.ReadCommandsFrame
  intro s t i hread hx
  have hi : ∀ h, i ≠ .enterQuad h ∧ i ≠ .exitQuad h := by rcases hread with rfl | rfl <;> simp
  have hdev : t.dev = s.devAfterRead := by
    obtain ⟨l, rfl⟩ := exists_loc_readCommand hread
    rw [(exec_dev hx).1, State.devAfter_readCommand]
  have hs1 : s.st ≠ .rd1 → t.s1 = s.s1 := fun hst =>
    (exec_s1_kept_or_rd1 hx hi).resolve_right fun h => hst h.2
  have hs2 : s.st ≠ .rd2 → t.s2 = s.s2 := fun hst =>
    (exec_s2_kept_or_rd2 hx hi).resolve_right fun h => hst h.2
  have hpcnt : s.st ≠ .poll → t.pcnt = s.pcnt := fun hst => by
    rcases exec_pcnt_kept_or_poll_or_wrsr hx hi with h | ⟨_, h⟩ | ⟨a, b, rfl⟩
    · exact h
    · exact absurd h hst
    · simp at hread
  obtain ⟨hstored, hpar, hbus, hsched, hclock, hop, hh, htrace⟩ := exec_frame hx hi
  exact ⟨hstored, by simp [hdev], by simp [hdev], by simp [hdev],
    fun h => hdev ▸ State.devAfterRead_wel_of_false h, hpar, hbus, hsched, hclock, hop, hh, htrace,
    exec_block_kept_of_other hx hi, fun _ => ⟨hs1, hs2, hpcnt⟩⟩

/-- Write Status keeps WIP and PEND, or starts a write cycle with the pair it carries (R225, R227, R236). -/
theorem State.devAfterWrsr_pending (s : State) (a b : Byte) :
    ((s.devAfterWrsr a b).wip = s.dev.wip ∧ (s.devAfterWrsr a b).p1 = s.dev.p1 ∧
        (s.devAfterWrsr a b).p2 = s.dev.p2) ∨
      ((s.devAfterWrsr a b).wip = true ∧ (s.devAfterWrsr a b).p1 = a ∧ (s.devAfterWrsr a b).p2 = b) := by
  rcases s.devAfterWrsr_cases a b with ⟨_, _, _, _, h⟩ | ⟨_, _, h⟩ | h <;> rw [h]
  · exact .inr ⟨rfl, rfl, rfl⟩
  · exact .inl ⟨rfl, rfl, rfl⟩
  · exact .inl ⟨rfl, rfl, rfl⟩

/-- Settles O26, from the frame of every wire command and the device after each of the two. -/
theorem writeCommandsFrame : Obligations.WriteCommandsFrame := by
  unfold Obligations.WriteCommandsFrame
  intro s t i hwrite hx
  have hi : ∀ h, i ≠ .enterQuad h ∧ i ≠ .exitQuad h := by rcases hwrite with rfl | ⟨a, b, rfl⟩ <;> simp
  have hs1 : t.s1 = s.s1 := (exec_s1_kept_or_rd1 hx hi).resolve_right fun ⟨h, _⟩ => by simp [h] at hwrite
  have hs2 : t.s2 = s.s2 := (exec_s2_kept_or_rd2 hx hi).resolve_right fun ⟨h, _⟩ => by simp [h] at hwrite
  have hwren : i = .wren →
      t.dev.wip = s.dev.wip ∧ t.dev.p1 = s.dev.p1 ∧ t.dev.p2 = s.dev.p2 ∧ t.pcnt = s.pcnt := by
    rintro rfl
    have hpcnt : t.pcnt = s.pcnt := by simpa using exec_pcnt_kept_or_poll_or_wrsr hx hi
    simp [(exec_dev hx).1, State.devAfter, hpcnt]
  have hwrsr : ∀ a b, i = .wrsr a b →
      (t.dev.wip = s.dev.wip ∧ t.dev.p1 = s.dev.p1 ∧ t.dev.p2 = s.dev.p2) ∨
        (t.dev.wip = true ∧ t.dev.p1 = a ∧ t.dev.p2 = b) := by
    rintro a b rfl
    rw [(exec_dev hx).1]
    exact s.devAfterWrsr_pending a b
  have hother : s.bus.master = .other → t.st = s.st ∧ t.pcnt = s.pcnt ∧ t.res = s.res ∧ t.mode = s.mode ∧
      t.outstanding = s.outstanding := fun ho => by
    obtain ⟨hst, _, _, hrest⟩ := exec_block_kept_of_other hx hi ho
    exact ⟨hst, hrest⟩
  obtain ⟨hstored, hpar, hbus, hsched, hclock, hop, hh, htrace⟩ := exec_frame hx hi
  exact ⟨hstored, hpar, hbus, hsched, hclock, hop, hh, hs1, hs2, htrace, hwren, hwrsr, hother⟩

/-! ### The stored pair (O28) -/

/-- Without a write cycle commit does nothing (R232). -/
theorem Device.commit_of_not_wip {d : Device} (h : d.wip = false) (p : Params) : d.commit p = d := by
  simp [Device.commit, h]

/-- A reset keeps the stored pair, whatever exchange it abandons (R303). -/
theorem takeReset_stored {s t : State} {l : Leftover} {x : Draws} (hr : takeReset s l x = .next t) (loc : Loc) :
    t.dev.stored loc = s.dev.stored loc := by
  rcases takeReset_next hr with ⟨_, rfl⟩ | ⟨i, u, _, _, rfl, _, rfl⟩
  · rfl
  · exact State.devAfter_stored _ i loc

/-- Settles O28, by cases on the environment's move: no move but commit writes the pair, and commit does so only
while WIP = 1. -/
theorem storedPairChangesOnlyAtCommit : Obligations.StoredPairChangesOnlyAtCommit := by
  unfold Obligations.StoredPairChangesOnlyAtCommit
  intro s t loc hs hne
  rcases step_cases hs with ⟨o, h, _, rfl⟩ | ⟨l, x, _, hr⟩ | ⟨_, _, _, _, rfl⟩ | ⟨_, _, _, rfl⟩ |
    ⟨_, i, _, _, hx⟩ | ⟨_, rfl⟩ | ⟨he, rfl⟩ | ⟨_, _, _, _, i, _, _, hx⟩
  · simp [State.start_environment] at hne
  · exact absurd (takeReset_stored hr loc) hne
  · exact absurd rfl hne
  · exact absurd rfl hne
  · exact absurd ((exec_dev hx).1 ▸ State.devAfter_stored _ i loc) hne
  · exact absurd rfl hne
  · refine ⟨he, ?_⟩
    by_contra hwip
    simp [Device.commit_of_not_wip (Bool.eq_false_of_not_eq_true hwip)] at hne
  · exact absurd ((exec_dev hx).1 ▸ State.devAfter_stored _ i loc) hne

/-! ### Silence (O9) -/

theorem step_eq_of_silence {s : State} (he : s.nextEvent = .silence) : step s = .next s.advance.wait := by
  simp [step, fetch, he]

/-- Settles O9: the step on silence is `State.wait`, which writes what it says. -/
theorem silenceLeavesTheBlockWaiting : Obligations.SilenceLeavesTheBlockWaiting := by
  unfold Obligations.SilenceLeavesTheBlockWaiting
  intro s he
  rw [step_eq_of_silence he]
  rfl

end Sys2Proof.Machine

namespace Sys2Proof

/-! ### Decode and encode (O42)

An instruction decodes from its own form, and each port's decoder answers an instruction on that form alone. -/

theorem decode_encode (i : Instr) : decode (encode i) = .ok i := by
  cases i with
  | rdsr1 => exact Laws.RoundTrip.rdsr1
  | rdsr2 => exact Laws.RoundTrip.rdsr2
  | wren => exact Laws.RoundTrip.wren
  | wrsr status1 status2 => exact Laws.RoundTrip.wrsr status1 status2
  | enterQuad handle => exact Laws.RoundTrip.enterQuad handle
  | exitQuad handle => exact Laws.RoundTrip.exitQuad handle

theorem encode_decodeHost (op : BitVec 1) (handle : Handle) : encode (decodeHost op handle) = .hostop op handle := by
  rcases BitVec.eq_zero_or_eq_one op with rfl | rfl <;> rfl

/-- Each branch of the wire decoder that answers fixes the opcode, the data bytes and the number received (R113). -/
theorem encode_of_decodeWire {tx : List Byte} {k : Nat} {i : Instr} (hd : decodeWire tx k = .ok i) :
    encode i = .xchg tx k := by
  unfold decodeWire at hd
  split at hd
  case h_1 => cases hd
  case h_2 opcode data =>
    split_ifs at hd with hop hop hop hop
    all_goals
      subst hop
      split at hd <;> cases hd
      rfl

theorem encode_of_decode {c : Code} {i : Instr} (hd : decode c = .ok i) : encode i = c := by
  cases c with
  | hostop op handle =>
    cases hd
    exact encode_decodeHost op handle
  | xchg tx k => exact encode_of_decodeWire hd

theorem decode_eq_ok_iff (c : Code) (i : Instr) : decode c = .ok i ↔ encode i = c :=
  ⟨encode_of_decode, fun h => h ▸ decode_encode i⟩

/-- Settles O42: an instruction decodes from its form (`decode_encode`), and what decodes to it is that form
(`encode_of_decode`). -/
theorem decodeAndEncodeAgree : Obligations.DecodeAndEncodeAgree := by
  unfold Obligations.DecodeAndEncodeAgree
  exact decode_eq_ok_iff

/-! ### Words of the opcode table (O43, O41)

A table word stands for an instruction exactly when the form it is presented in is the instruction's, so its match and
mask are read off the encodings of the same length. -/

theorem decodeTableWord_eq_some_iff (nbits w : Nat) (i : Instr) :
    decodeTableWord nbits w = some i ↔ encode i = tableCode nbits w := by
  rw [← decode_eq_ok_iff, decodeTableWord]
  cases decode (tableCode nbits w) <;> simp

/-- A byte of a table word is a field of its bits (R101). -/
theorem ofNat_toNat_div_eq_extractLsb' {width : Nat} (w : BitVec width) (n : Nat) :
    BitVec.ofNat 8 (w.toNat / 256 ^ n) = w.extractLsb' (8 * n) 8 := by
  simp [BitVec.extractLsb', Nat.shiftRight_eq_div_pow, Nat.pow_mul]

theorem tableBytes_word24 (w : BitVec 24) :
    tableBytes 3 w.toNat = [w.extractLsb' 16 8, w.extractLsb' 8 8, w.extractLsb' 0 8] := by
  simp only [tableBytes, ofNat_toNat_div_eq_extractLsb']

theorem tableCode_word24 (w : BitVec 24) : tableCode 24 w.toNat =
    .xchg [w.extractLsb' 16 8, w.extractLsb' 8 8, w.extractLsb' 0 8] (receivedBytes (w.extractLsb' 16 8)) := by
  simp [tableCode, tableBytes_word24]

theorem tableCode_word8 {w : BitVec 8} (hw : 1 < w.toNat) : tableCode 8 w.toNat = .xchg [w] (receivedBytes w) := by
  simp [tableCode, tableBytes, Nat.not_lt.2 hw]

/-- The mask of Write Status leaves bits 23:16 in place and clears the others. -/
theorem and_wrsrMask_eq (w : BitVec 24) : w &&& 0xFF0000 = w.extractLsb' 16 8 ++ 0#16 := by
  have hmask : (0xFF0000 : BitVec 24) = BitVec.allOnes 8 ++ 0#16 := rfl
  have hword : w.extractLsb' 16 8 ++ w.extractLsb' 0 16 = w :=
    (BitVec.extractLsb'_append_extractLsb'_eq_extractLsb' rfl).trans BitVec.extractLsb'_eq_self
  calc w &&& 0xFF0000
      = (w.extractLsb' 16 8 ++ w.extractLsb' 0 16) &&& (BitVec.allOnes 8 ++ 0#16) := by rw [hword, hmask]
    _ = w.extractLsb' 16 8 ++ 0#16 := by rw [BitVec.and_append, BitVec.and_allOnes, BitVec.and_zero]

/-- The match and the mask of Write Status test the opcode byte (R113). -/
theorem and_wrsrMask_eq_match_iff (w : BitVec 24) :
    w &&& 0xFF0000 = 0x010000 ↔ w.extractLsb' 16 8 = Opcode.wrsr := by
  have hmatch : (0x010000 : BitVec 24) = Opcode.wrsr ++ 0#16 := rfl
  rw [and_wrsrMask_eq, hmatch, BitVec.append_left_inj]

/-- An exchange of three bytes is the form of Write Status alone. -/
theorem encode_eq_xchg_three_iff (i : Instr) (opcode a b : Byte) :
    encode i = .xchg [opcode, a, b] (receivedBytes opcode) ↔ opcode = Opcode.wrsr ∧ i = .wrsr a b := by
  constructor
  · intro h
    cases i with
    | wrsr status1 status2 => simp_all [encode]
    | _ => simp [encode] at h
  · rintro ⟨rfl, rfl⟩
    rfl

/-- An exchange of one byte is the form of one of the three other wire commands. -/
theorem encode_eq_xchg_one_iff (i : Instr) (opcode : Byte) :
    encode i = .xchg [opcode] (receivedBytes opcode) ↔
      (opcode = Opcode.rdsr1 ∧ i = .rdsr1) ∨ (opcode = Opcode.rdsr2 ∧ i = .rdsr2) ∨
        (opcode = Opcode.wren ∧ i = .wren) := by
  constructor
  · intro h
    cases i with
    | rdsr1 => simp_all [encode]
    | rdsr2 => simp_all [encode]
    | wren => simp_all [encode]
    | _ => simp [encode] at h
  · rintro (⟨rfl, rfl⟩ | ⟨rfl, rfl⟩ | ⟨rfl, rfl⟩) <;> rfl

/-- Settles O43: a word's form is an exchange of its bytes, and the forms of that length are Write Status's, under its
match and mask, or the three commands of one byte. -/
theorem tableWordsMatchTheirMasks : Obligations.TableWordsMatchTheirMasks := by
  unfold Obligations.TableWordsMatchTheirMasks
  refine ⟨fun w => Option.ext fun i => ?_, fun w hw => Option.ext fun i => ?_, ?_, ?_⟩
  · rw [decodeTableWord_eq_some_iff, tableCode_word24, encode_eq_xchg_three_iff, ← and_wrsrMask_eq_match_iff]
    split <;> simp_all [eq_comm]
  · rw [decodeTableWord_eq_some_iff, tableCode_word8 hw, encode_eq_xchg_one_iff]
    simp only [Opcode.rdsr1, Opcode.rdsr2, Opcode.wren]
    split_ifs <;> simp_all [eq_comm]
  · exact (decodeTableWord_eq_some_iff 8 0 _).2 rfl
  · exact (decodeTableWord_eq_some_iff 8 1 _).2 rfl

/-- Settles O41: each form is the instruction's encoding, and each table word is presented in it. -/
theorem specWordsDecode : Obligations.SpecWordsDecode := by
  unfold Obligations.SpecWordsDecode
  exact ⟨decode_encode .rdsr1, decode_encode .rdsr2, decode_encode .wren, decode_encode (.wrsr 0xA4 0xFA),
    decode_encode (.enterQuad 3), decode_encode (.exitQuad 3), (decodeTableWord_eq_some_iff 24 0x01A4FA _).2 rfl,
    (decodeTableWord_eq_some_iff 8 0x35 _).2 rfl⟩

end Sys2Proof

namespace Sys2Proof.Machine

/-! ### The states that emit each command (R109) -/

theorem State.emits_rdsr1_iff (s : State) : s.emits = some .rdsr1 ↔ s.st = .rd1 ∨ s.st = .poll := by
  unfold State.emits
  cases s.st <;> simp

theorem State.emits_rdsr2_iff (s : State) : s.emits = some .rdsr2 ↔ s.st = .rd2 := by
  unfold State.emits
  cases s.st <;> simp

theorem State.emits_wren_iff (s : State) : s.emits = some .wren ↔ s.st = .wren := by
  unfold State.emits
  cases s.st <;> simp

/-! ### Faults (O10, O11) -/

/-- A wire command faults exactly when it is marked as the block's and the block's state does not emit it. -/
theorem exec_eq_fault_iff {i : Instr} (hi : ∀ h, i ≠ .enterQuad h ∧ i ≠ .exitQuad h) (s : State) (f : Fault) :
    exec i s = .fault f ↔ s.bus.master = .block ∧ s.emits ≠ some i := by
  cases i with
  | rdsr1 =>
    rw [Ne, s.emits_rdsr1_iff]
    simp only [exec, execRdsr1]
    split <;> simp_all
  | rdsr2 =>
    rw [Ne, s.emits_rdsr2_iff]
    simp only [exec, execRdsr2]
    split <;> simp_all
  | wren =>
    rw [Ne, s.emits_wren_iff]
    simp only [exec, execWren]
    split
    · split <;> simp_all
    · split <;> simp_all
    · simp_all
  | wrsr a b =>
    simp only [exec, execWrsr]
    split
    · split <;> simp_all
    · split
      · split <;> simp_all
      · simp_all
  | enterQuad h => exact absurd rfl (hi h).1
  | exitQuad h => exact absurd rfl (hi h).2

theorem exec_emitted_ne_fault {i : Instr} {s u : State} (hem : s.emits = some i) (hu : u.emits = s.emits) (f : Fault) :
    exec i u ≠ .fault f :=
  fun hf => ((exec_eq_fault_iff (emits_not_hostop hem) u f).1 hf).2 (hu.trans hem)

theorem exec_other_ne_fault {tx : List Byte} {k : Nat} {i : Instr} {u : State} (hd : decodeWire tx k = .ok i)
    (ho : u.bus.master = .other) (f : Fault) : exec i u ≠ .fault f := fun hf => by
  have hb := ((exec_eq_fault_iff (decodeWire_ne_hostop hd) u f).1 hf).1
  simp [ho] at hb

theorem takeReset_ne_fault (s : State) (l : Leftover) (x : Draws) (f : Fault) : takeReset s l x ≠ .fault f := by
  unfold takeReset
  split
  · dsimp only
    split <;> nofun
  · nofun

theorem takeBound_ne_fault (s : State) (n : Nat) (f : Fault) : takeBound s n ≠ .fault f := by
  unfold takeBound
  split <;> nofun

/-- Settles O10, by the environment's move: the block's exchange is the one its state emits, and another user's is
never marked as the block's. -/
theorem noStepFaults : Obligations.NoStepFaults := by
  unfold Obligations.NoStepFaults
  intro s f
  unfold step fetch
  cases s.nextEvent with
  | start op handle => simp [decode, exec_decodeHost]
  | reset l x => exact takeReset_ne_fault _ l x f
  | setBound n => exact takeBound_ne_fault _ n f
  | transport x =>
    cases hem : s.emits with
    | none => nofun
    | some i =>
      simp only [decode_encode]
      exact exec_emitted_ne_fault (u := s.advance.withBus _) hem rfl f
  | silence => nofun
  | commit => nofun
  | other handle tx k x =>
    simp only [decode]
    cases hd : decodeWire tx k with
    | error why => nofun
    | ok i => exact exec_other_ne_fault hd rfl f

/-- Settles O11: the states that emit each command, through `exec_eq_fault_iff`. -/
theorem commandsNotEmittedAreStuck : Obligations.CommandsNotEmittedAreStuck := by
  unfold Obligations.CommandsNotEmittedAreStuck
  intro s hm
  refine ⟨fun hst => ?_, fun hst => ?_, fun hst => ?_, fun a b hst => ?_⟩
  · exact (exec_eq_fault_iff (by simp) s _).2 ⟨hm, mt s.emits_rdsr1_iff.1 (not_or.2 hst)⟩
  · exact (exec_eq_fault_iff (by simp) s _).2 ⟨hm, mt s.emits_rdsr2_iff.1 hst⟩
  · exact (exec_eq_fault_iff (by simp) s _).2 ⟨hm, mt s.emits_wren_iff.1 hst⟩
  · exact (exec_eq_fault_iff (by simp) s _).2 ⟨hm, mt (s.emits_wrsr_iff a b).1 hst⟩

/-! ### What a step runs (O6, O7) -/

theorem step_eq_exec {s t : State} {c : Code} {i : Instr} (hf : fetch s = .presents c t) (hd : decode c = .ok i) :
    step s = exec i t := by
  simp [step, hf, hd]

theorem step_eq_of_transport_idle {s : State} {x : Draws} (he : s.nextEvent = .transport x) (hst : s.st = .idle) :
    step s = .next s.advance := by
  simp [step, fetch, he, s.emits_eq_none_iff.2 hst]

/-- Settles O6: each of the three moves presents its form in the state that the statement writes out. -/
theorem stepRunsTheDecodedInstruction : Obligations.StepRunsTheDecodedInstruction := by
  unfold Obligations.StepRunsTheDecodedInstruction
  refine ⟨fun s op handle i he hd => ?_, fun s x c i he hem hd => ?_, fun s handle tx k x i he hd => ?_⟩
  · exact step_eq_exec (by simp only [fetch, he]; rfl) hd
  · exact step_eq_exec (by simp only [fetch, he, hem]; rfl) hd
  · exact step_eq_exec (by simp only [fetch, he]; rfl) hd

/-- Settles O7: `step_eq_of_transport` on the command that each state emits. -/
theorem eachStateEmitsItsCommand : Obligations.EachStateEmitsItsCommand := by
  unfold Obligations.EachStateEmitsItsCommand
  rintro s u x he rfl
  refine ⟨fun hst => ?_, fun hst => ?_, fun hst => ?_, fun hst => ?_, fun hst hop => ?_, fun hst hop => ?_,
    fun hst => ?_⟩
  · exact step_eq_of_transport_idle he hst
  · exact step_eq_of_transport he (s.emits_rdsr1_iff.2 (.inl hst))
  · exact step_eq_of_transport he (s.emits_rdsr2_iff.2 hst)
  · exact step_eq_of_transport he (s.emits_wren_iff.2 hst)
  · exact step_eq_of_transport he ((s.emits_wrsr_iff _ _).2 ⟨hst, rfl, hop ▸ rfl⟩)
  · exact step_eq_of_transport he ((s.emits_wrsr_iff _ _).2 ⟨hst, rfl, hop ▸ rfl⟩)
  · exact step_eq_of_transport he (emits_poll hst)

/-! ### The operands of Write Status (O17) -/

theorem quadMask_getLsbD (n : Nat) : quadMask.getLsbD n = decide (n = 1) := by
  have hmask : quadMask = BitVec.twoPow 8 1 := rfl
  simp [hmask, BitVec.getLsbD_twoPow, eq_comm]

/-- W2 has bit 1 by the operation and every other bit from S2 (R104). -/
theorem w2_getLsbD (op : Op) (s2 : Byte) (n : Nat) :
    (w2 op s2).getLsbD n = if n = 1 then decide (op = .enterQuad) else s2.getLsbD n := by
  by_cases hn : n = 1
  · cases op <;> simp [w2, quadMask_getLsbD, hn]
  · cases op with
    | enterQuad => simp [w2, quadMask_getLsbD, hn]
    | exitQuad => simpa [w2, quadMask_getLsbD, hn] using BitVec.lt_of_getLsbD

/-- Settles O17: the operands are S1 and W2, whose bits are `w2_getLsbD`. -/
theorem writeStatusOperandBits : Obligations.WriteStatusOperandBits := by
  unfold Obligations.WriteStatusOperandBits
  intro s hst
  refine ⟨w2 s.op s.s2, (s.emits_wrsr_iff _ _).2 ⟨hst, rfl, rfl⟩, rfl, fun hop => ?_, fun hop => ?_, ?_, ?_⟩
  · rw [hop]
    exact ⟨rfl, w2_getLsbD _ _ 1⟩
  · rw [hop]
    exact ⟨rfl, w2_getLsbD _ _ 1⟩
  · ext n hn
    rw [BitVec.getElem_extractLsb', BitVec.getElem_extractLsb', w2_getLsbD, if_neg (by omega)]
  · exact w2_getLsbD _ _ 0

end Sys2Proof.Machine

namespace Sys2Proof.Machine

/-! ### The block's part of the trace, and the write-enable pairing (O45) -/

theorem State.blockTrace_of_other {s t : State} {x : Exchange} (h : t.trace = x :: s.trace)
    (hx : x.master = .other) : t.blockTrace = s.blockTrace := by
  simp [State.blockTrace, h, hx]

theorem State.blockTrace_of_block {s t : State} {h : Handle} {i : Instr} {r : Reply}
    (ht : t.trace = blockExchange h i r :: s.trace) : t.blockTrace = blockExchange h i r :: s.blockTrace := by
  simp [State.blockTrace, ht, blockExchange]

/-- Write Enable leaves its outcome in the trace, and nothing received (R133). -/
theorem execWren_reply {s t : State} (hx : execWren s = .next t) :
    t.trace.head?.map (·.reply) = some (sendReply s.bus.draws.answer) := by
  rcases execWren_next hx with ⟨_, ⟨_, rfl⟩ | ⟨_, _, rfl⟩⟩ <;> simp [State.onWrite_trace]

/-- A row that leads to WRSR is the advance from WREN (R133). -/
theorem Row.of_wrsr {s t : State} {i : Instr} {r : Reply} (hrow : Row s t i r) (ht : t.st = .wrsr) :
    s.st = .wren ∧ r ≠ .fail := by
  rcases hrow with ⟨_, _, _, h⟩ | ⟨hr, _, _, _, hline⟩ | ⟨_, _, _, _, _, _, _, h⟩ |
    ⟨_, _, _, _, _, _, _, _, h⟩ | ⟨_, _, _, _, _, _, _, _, h, _⟩
  · simp [ht] at h
  · exact ⟨by simpa [ht] using hline, hr⟩
  · simp [ht] at h
  · simp [ht] at h
  · simp [ht] at h

/-- An exchange of the block enters its part of the trace, and leads to WRSR only if it is the Write Enable answered
Ok (R133). -/
theorem exec_blockExchange {i : Instr} {s t : State} (hx : exec i s = .next t)
    (hi : ∀ h, i ≠ .enterQuad h ∧ i ≠ .exitQuad h) (hb : s.bus.master = .block) :
    ∃ r, t.trace = blockExchange s.bus.handle i r :: s.trace ∧ (t.st = .wrsr → i = .wren ∧ r = .ok []) := by
  rcases exec_row hx hi with ⟨ho, _⟩ | ⟨_, hem, r, htrace, hrow⟩
  · simp [hb] at ho
  refine ⟨r, htrace, fun ht => ?_⟩
  obtain ⟨hst, hr⟩ := hrow.of_wrsr ht
  obtain rfl : Instr.wren = i := by simpa [s.emits_wren_iff.2 hst] using hem
  have hreply : r = sendReply s.bus.draws.answer := by simpa [htrace] using execWren_reply hx
  cases ha : s.bus.draws.answer with
  | ok => exact ⟨rfl, by rw [hreply, ha]; rfl⟩
  | fail => exact absurd (by rw [hreply, ha]; rfl) hr

/-- No form but Write Status's has its opcode (R102). -/
theorem blockExchange_isWriteStatus {h : Handle} {i : Instr} {r : Reply}
    (hw : (blockExchange h i r).isWriteStatus = true) : ∃ a b, i = .wrsr a b := by
  cases i with
  | wrsr a b => exact ⟨a, b, rfl⟩
  | rdsr1 => cases hw
  | rdsr2 => cases hw
  | wren => cases hw
  | enterQuad _ => cases hw
  | exitQuad _ => cases hw

/-- The block sends a Write Status in WRSR alone (R109). -/
theorem st_wrsr_of_isWriteStatus {s : State} {i : Instr} {h : Handle} {r : Reply} (hem : s.emits = some i)
    (hw : (blockExchange h i r).isWriteStatus = true) : s.st = .wrsr := by
  obtain ⟨a, b, rfl⟩ := blockExchange_isWriteStatus hw
  exact ((s.emits_wrsr_iff a b).1 hem).1

theorem EnablePaired.of_kept {s t : State} (hp : EnablePaired s) (htrace : t.blockTrace = s.blockTrace)
    (hst : t.st = .wrsr → s.st = .wrsr) : EnablePaired t := by
  unfold EnablePaired
  rw [htrace]
  exact ⟨hp.1, fun ht => hp.2 (hst ht)⟩

/-- An exchange of the block's own state keeps the pairing, answered or abandoned: a Write Status is sent in WRSR,
where the last exchange was the enable. -/
theorem EnablePaired.of_exchange {s t : State} {i : Instr} {r : Reply} (hp : EnablePaired s)
    (hem : s.emits = some i) (htrace : t.trace = blockExchange s.h i r :: s.trace)
    (hst : t.st = .wrsr → i = .wren ∧ r = .ok []) : EnablePaired t := by
  obtain ⟨hwrites, hlast⟩ := hp
  unfold EnablePaired
  rw [State.blockTrace_of_block htrace]
  constructor
  · have hpaired : (blockExchange s.h i r).isWriteStatus = true →
        s.blockTrace.head?.any (·.isWriteEnableOk) = true :=
      fun hw => hlast (st_wrsr_of_isWriteStatus hem hw)
    simpa [writesEnabled, hwrites, ← Bool.not_eq_true, ← imp_iff_not_or] using hpaired
  · intro ht
    obtain ⟨rfl, rfl⟩ := hst ht
    rfl

/-- Settles O45, by cases on the environment's move: only the block's own exchanges, answered or abandoned by a
reset, enter its part of the trace, and only its Write Enable answered Ok leads to WRSR. -/
theorem writeEnableAlwaysPrecedesWrite : Obligations.WriteEnableAlwaysPrecedesWrite := by
  unfold Obligations.WriteEnableAlwaysPrecedesWrite
  intro s t hp hs
  rcases step_cases hs with ⟨o, h, _, rfl⟩ | ⟨l, x, _, hr⟩ | ⟨_, _, _, _, rfl⟩ | ⟨_, _, _, rfl⟩ |
    ⟨x, i, _, hem, hx⟩ | ⟨_, rfl⟩ | ⟨_, rfl⟩ | ⟨_, _, _, _, i, _, hd, hx⟩
  · rcases s.advance.start_cases (startedOp o) h with ⟨_, he⟩ | ⟨_, he⟩
    · rw [he]
      exact hp.of_kept rfl nofun
    · rw [he]
      exact hp
  · rcases takeReset_next hr with ⟨_, rfl⟩ | ⟨i, u, _, hem, rfl, _, rfl⟩
    · exact hp.of_kept rfl nofun
    · exact hp.of_exchange (i := i) (r := .abandoned) hem rfl nofun
  · exact hp
  · exact hp
  · obtain ⟨r, htrace, hst⟩ := exec_blockExchange hx (emits_not_hostop hem) rfl
    exact hp.of_exchange hem htrace hst
  · exact hp
  · exact hp
  · obtain ⟨_, rfl⟩ := exec_of_other hx (decodeWire_ne_hostop hd) rfl
    exact hp.of_kept (State.blockTrace_of_other rfl rfl) id

end Sys2Proof.Machine

namespace Sys2Proof.Machine

/-! ### What an exchange brings, and what it does to the device, case by case (R74, R222 to R228, R236) -/

section Device

variable {s : State}

theorem State.attached_eq_true_iff (s : State) : s.attached = true ↔ s.bus.handle = s.par.link := by
  simp [State.attached]

theorem gotStatus1_of_ok (hok : s.bus.draws.answer = .ok) :
    gotStatus1 s = some (if s.bus.handle = s.par.link then
      (if s.dev.wip then s.bus.draws.byte ||| 0x01 else s.dev.n1 &&& 0xFE) else s.bus.draws.byte) := by
  simp [gotStatus1, State.received, hok, State.attached_eq_true_iff, Device.status1, busyMask]

theorem gotStatus1_of_fail (hfail : s.bus.draws.answer = .fail) : gotStatus1 s = none := by
  simp [gotStatus1, State.received, hfail]

theorem gotStatus2_of_ok (hok : s.bus.draws.answer = .ok) :
    gotStatus2 s = some (if s.bus.handle = s.par.link then
      (if s.dev.wip then s.bus.draws.byte else s.dev.n2) else s.bus.draws.byte) := by
  simp [gotStatus2, State.received, hok, State.attached_eq_true_iff, Device.status2]

theorem gotStatus2_of_fail (hfail : s.bus.draws.answer = .fail) : gotStatus2 s = none := by
  simp [gotStatus2, State.received, hfail]

theorem State.devAfterRead_eq (s : State) : s.devAfterRead =
    if s.bus.handle = s.par.link ∧ s.dev.wel = true then { s.dev with wel := s.bus.draws.wel } else s.dev := by
  simp only [State.devAfterRead, Device.afterRead, State.attached_eq_true_iff, ite_and]

theorem State.arrives_of_ok (hok : s.bus.draws.answer = .ok) : s.arrives = true := by
  simp [State.arrives, hok]

theorem State.arrives_of_fail (hfail : s.bus.draws.answer = .fail) : s.arrives = s.bus.draws.arrived := by
  simp [State.arrives, hfail]

/-- A write-type command meets no write cycle: the device has none or the handle is another link's. -/
def State.MeetsNoCycle (s : State) : Prop := s.bus.handle = s.par.link → s.dev.wip = false

theorem State.MeetsNoCycle.hitsBusy_eq (h : s.MeetsNoCycle) : s.hitsBusy = false := by
  by_cases hlink : s.bus.handle = s.par.link
  · simp [State.hitsBusy, h hlink]
  · simp [State.hitsBusy, State.attached, hlink]

theorem State.MeetsNoCycle.devAfterWren_eq (h : s.MeetsNoCycle) : s.devAfterWren =
    if s.bus.handle = s.par.link ∧ s.arrives = true then { s.dev with wel := true } else s.dev := by
  by_cases hlink : s.bus.handle = s.par.link
  · simp [State.devAfterWren, State.attached, hlink, h hlink]
  · simp [State.devAfterWren, State.attached, hlink]

theorem State.MeetsNoCycle.devAfterWrsr_eq (h : s.MeetsNoCycle) (a b : Byte) : s.devAfterWrsr a b =
    if s.bus.handle = s.par.link ∧ s.dev.wel = true then
      (if s.arrives then s.dev.accept a b else { s.dev with wel := s.bus.draws.wel }) else s.dev := by
  by_cases hlink : s.bus.handle = s.par.link
  · simp [State.devAfterWrsr, State.attached, hlink, h hlink]
  · simp [State.devAfterWrsr, State.attached, hlink]

end Device

/-! ### The block's steps (O12 to O15) -/

section BlockStep

variable {s : State} (hm : s.bus.master = .block)
include hm

/-- The end of the block's exchange (R19, R80). -/
theorem State.settle_of_block (d : Device) (i : Instr) (reply : Reply) : s.settle d i reply =
    { s with dev := d, outstanding := false, trace := blockExchange s.bus.handle i reply :: s.trace } := by
  simp [State.settle, hm, blockExchange]

theorem exec_rdsr1_rd1 (hst : s.st = .rd1) :
    exec .rdsr1 s = .next ((s.settle s.devAfterRead .rdsr1 (readReply (gotStatus1 s))).onRd1 (gotStatus1 s)) := by
  simp only [exec, execRdsr1, hm, hst, gotStatus1]

theorem exec_rdsr2_rd2 (hst : s.st = .rd2) :
    exec .rdsr2 s = .next ((s.settle s.devAfterRead .rdsr2 (readReply (gotStatus2 s))).onRd2 (gotStatus2 s)) := by
  simp only [exec, execRdsr2, hm, hst, gotStatus2]

theorem exec_wren_wren (hst : s.st = .wren) (hfree : s.MeetsNoCycle) :
    exec .wren s = .next ((s.settle s.devAfterWren .wren (sendReply s.bus.draws.answer)).onWren
      s.bus.draws.answer) := by
  simp [exec, execWren, hm, hst, hfree.hitsBusy_eq]

theorem exec_wrsr_wrsr {a b : Byte} (hem : s.emits = some (.wrsr a b)) (hfree : s.MeetsNoCycle) :
    exec (.wrsr a b) s = .next ((s.settle (s.devAfterWrsr a b) (.wrsr a b)
      (sendReply s.bus.draws.answer)).onWrsr s.bus.draws.answer) := by
  simp [exec, execWrsr, hm, hem, hfree.hitsBusy_eq]

end BlockStep

/-- Settles O12: the step is `State.onRd1` on what Read Status1 brings. -/
theorem readStatus1StoresOrAborts : Obligations.ReadStatus1StoresOrAborts := by
  unfold Obligations.ReadStatus1StoresOrAborts
  rintro s b d hm hst rfl rfl
  rw [exec_rdsr1_rd1 hm hst, State.settle_of_block hm, State.devAfterRead_eq]
  constructor
  · intro hok
    rw [gotStatus1_of_ok hok]
    rfl
  · intro hfail
    rw [gotStatus1_of_fail hfail]
    rfl

/-- Settles O13: the step is `State.onRd2` on what Read Status2 brings. -/
theorem readStatus2StoresOrAborts : Obligations.ReadStatus2StoresOrAborts := by
  unfold Obligations.ReadStatus2StoresOrAborts
  rintro s b d hm hst rfl rfl
  rw [exec_rdsr2_rd2 hm hst, State.settle_of_block hm, State.devAfterRead_eq]
  constructor
  · intro hok
    rw [gotStatus2_of_ok hok]
    rfl
  · intro hfail
    rw [gotStatus2_of_fail hfail]
    rfl

/-- Settles O14: the step is `State.onWren` on the answer, and the device takes a Write Enable that arrives. -/
theorem writeEnableStepAdvancesOrAborts : Obligations.WriteEnableStepAdvancesOrAborts := by
  unfold Obligations.WriteEnableStepAdvancesOrAborts
  intro s hm hst (hfree : s.MeetsNoCycle)
  rw [exec_wren_wren hm hst hfree, State.settle_of_block hm, hfree.devAfterWren_eq]
  constructor
  · intro hok
    simp only [hok, State.arrives_of_ok hok, and_true]
    rfl
  · intro hfail
    simp only [hfail, State.arrives_of_fail hfail]
    rfl

/-- Settles O15: the step is `State.onWrsr` on the answer, and an enabled device takes a Write Status that arrives. -/
theorem writeStatusStepStartsPollingOrAborts : Obligations.WriteStatusStepStartsPollingOrAborts := by
  unfold Obligations.WriteStatusStepStartsPollingOrAborts
  intro s w hm hst (hfree : s.MeetsNoCycle) hw
  have hw2 : w = w2 s.op s.s2 := by
    rw [hw]
    cases s.op <;> rfl
  have hem : s.emits = some (.wrsr s.s1 w) := (s.emits_wrsr_iff _ _).2 ⟨hst, rfl, hw2⟩
  rw [exec_wrsr_wrsr hm hem hfree, State.settle_of_block hm, hfree.devAfterWrsr_eq]
  constructor
  · intro hok
    simp only [hok, State.arrives_of_ok hok, if_true]
    rfl
  · intro hfail
    simp only [hfail, State.arrives_of_fail hfail]
    rfl

end Sys2Proof.Machine

namespace Sys2Proof.Machine

/-! ### The read-modify-write in every run (O50) -/

/-- The operation's exchanges before its Write Status, newest first, as its registers tell them: in RD2 the Read
Status1 that brought S1, in WREN the Read Status2 that brought S2 as well, in WRSR the Write Enable too (R158). -/
def State.ownExchanges (s : State) : List Exchange :=
  match s.st with
  | .idle => []
  | .rd1 => []
  | .rd2 => [blockExchange s.h .rdsr1 (.ok [s.s1])]
  | .wren => [blockExchange s.h .rdsr2 (.ok [s.s2]), blockExchange s.h .rdsr1 (.ok [s.s1])]
  | .wrsr => [blockExchange s.h .wren (.ok []), blockExchange s.h .rdsr2 (.ok [s.s2]),
      blockExchange s.h .rdsr1 (.ok [s.s1])]
  | .poll => []

theorem State.ownExchanges_of_idle {s : State} (hst : s.st = .idle) : s.ownExchanges = [] := by
  simp [State.ownExchanges, hst]

theorem State.ownExchanges_of_rd1 {s : State} (hst : s.st = .rd1) : s.ownExchanges = [] := by
  simp [State.ownExchanges, hst]

theorem State.ownExchanges_of_poll {s : State} (hst : s.st = .poll) : s.ownExchanges = [] := by
  simp [State.ownExchanges, hst]

/-- The invariant in one clause per part: the trace, and the operation's own exchanges as its last ones. -/
theorem pairReadCarried_iff (s : State) :
    PairReadCarried s ↔ writesCarryPairRead s.blockTrace ∧ s.ownExchanges <+: s.blockTrace := by
  unfold PairReadCarried State.ownExchanges
  cases s.st <;> simp [List.IsPrefix, eq_comm]

/-- W2 as the statements write it (R104). -/
theorem w2_eq_or_eq (op : Op) (b : Byte) : w2 op b = b ||| 0x02 ∨ w2 op b = b &&& 0xFD := by
  cases op with
  | enterQuad => exact .inl rfl
  | exitQuad => exact .inr rfl

/-- The poll is none of the exchanges before the Write Status, and what follows it is no such state either. -/
theorem State.onPoll_ownExchanges {u : State} (hst : u.st = .poll) (got : Option Byte) :
    (u.onPoll got).ownExchanges = [] := by
  rcases u.onPoll_cases got with ⟨_, h⟩ | ⟨_, _, _, h⟩ | ⟨_, _, _, _, h⟩ | ⟨_, _, _, _, h⟩ <;> rw [h]
  · rfl
  · rfl
  · rfl
  · exact State.ownExchanges_of_poll hst

/-- An exchange of the block is added to the operation's own, or leads to a state that has none. -/
theorem exec_ownExchanges {i : Instr} {s t : State} (hx : exec i s = .next t)
    (hi : ∀ h, i ≠ .enterQuad h ∧ i ≠ .exitQuad h) (hb : s.bus.master = .block) (hh : s.bus.handle = s.h) :
    ∃ r, t.trace = blockExchange s.h i r :: s.trace ∧
      (t.ownExchanges = [] ∨ t.ownExchanges = blockExchange s.h i r :: s.ownExchanges) := by
  have htrace (d : Device) (c : Instr) (r : Reply) : (s.settle d c r).trace = blockExchange s.h c r :: s.trace := by
    simp [blockExchange, hb, hh]
  cases i with
  | rdsr1 =>
    rcases execRdsr1_next hx with ⟨ho, _⟩ | ⟨_, hst, rfl⟩ | ⟨_, hst, rfl⟩
    · simp [hb] at ho
    · refine ⟨_, (State.onRead_trace _ _).1.trans (htrace _ _ _), ?_⟩
      cases gotStatus1 s with
      | none => exact .inl rfl
      | some b => exact .inr (by rw [State.ownExchanges_of_rd1 hst]; rfl)
    · refine ⟨_, (State.onRead_trace _ _).2.2.trans (htrace _ _ _), .inl ?_⟩
      exact State.onPoll_ownExchanges (u := s.settle _ _ _) hst _
  | rdsr2 =>
    rcases execRdsr2_next hx with ⟨ho, _⟩ | ⟨_, hst, rfl⟩
    · simp [hb] at ho
    · refine ⟨_, (State.onRead_trace _ _).2.1.trans (htrace _ _ _), ?_⟩
      cases gotStatus2 s with
      | none => exact .inl rfl
      | some b => exact .inr (by simp [State.ownExchanges, State.onRd2, readReply, hst])
  | wren =>
    rcases execWren_next hx with ⟨_, ⟨ho, _⟩ | ⟨_, hst, rfl⟩⟩
    · simp [hb] at ho
    · refine ⟨_, (State.onWrite_trace _ _).1.trans (htrace _ _ _), ?_⟩
      cases s.bus.draws.answer with
      | ok => exact .inr (by simp [State.ownExchanges, State.onWren, sendReply, hst])
      | fail => exact .inl rfl
  | wrsr a b =>
    rcases execWrsr_next hx with ⟨_, ⟨ho, _⟩ | ⟨_, _, rfl⟩⟩
    · simp [hb] at ho
    · refine ⟨_, (State.onWrite_trace _ _).2.trans (htrace _ _ _), .inl ?_⟩
      cases s.bus.draws.answer <;> rfl
  | enterQuad h => exact absurd rfl (hi h).1
  | exitQuad h => exact absurd rfl (hi h).2

/-- A state without exchanges of its own keeps the invariant with the trace. -/
theorem PairReadCarried.of_none_own {s t : State} (hp : PairReadCarried s) (htrace : t.trace = s.trace)
    (hown : t.ownExchanges = []) : PairReadCarried t := by
  obtain ⟨hwrites, _⟩ := (pairReadCarried_iff s).1 hp
  rw [pairReadCarried_iff, State.blockTrace, htrace, hown]
  exact ⟨hwrites, List.nil_prefix⟩

/-- The block's Write Status carries the pair that the operation's own exchanges brought. -/
theorem PairReadCarried.writesCarryPairRead_cons {s : State} {i : Instr} (hp : PairReadCarried s)
    (hem : s.emits = some i) (r : Reply) : writesCarryPairRead (blockExchange s.h i r :: s.blockTrace) := by
  obtain ⟨hwrites, _, _, hwrsr⟩ := hp
  refine ⟨fun hw => ?_, hwrites⟩
  obtain ⟨a, b, rfl⟩ := blockExchange_isWriteStatus hw
  obtain ⟨hst, rfl, rfl⟩ := (s.emits_wrsr_iff a b).1 hem
  obtain ⟨rest, htrace⟩ := hwrsr hst
  exact ⟨s.s1, s.s2, _, rest, rfl, w2_eq_or_eq s.op s.s2, htrace⟩

/-- An exchange of the block's own state, answered or abandoned, keeps the invariant. -/
theorem PairReadCarried.of_exchange {s t : State} {i : Instr} {r : Reply} (hp : PairReadCarried s)
    (hem : s.emits = some i) (htrace : t.trace = blockExchange s.h i r :: s.trace)
    (hown : t.ownExchanges = [] ∨ t.ownExchanges = blockExchange s.h i r :: s.ownExchanges) :
    PairReadCarried t := by
  rw [pairReadCarried_iff, State.blockTrace_of_block htrace]
  refine ⟨hp.writesCarryPairRead_cons hem r, ?_⟩
  rcases hown with h | h
  · rw [h]
    exact List.nil_prefix
  · rw [h, List.cons_prefix_cons]
    exact ⟨rfl, ((pairReadCarried_iff s).1 hp).2⟩

/-- An exchange of another user keeps the invariant: the block has no part in it (R207). -/
theorem PairReadCarried.of_settle_other {s : State} (hp : PairReadCarried s) (ho : s.bus.master = .other)
    (d : Device) (i : Instr) (reply : Reply) : PairReadCarried (s.settle d i reply) := by
  rw [pairReadCarried_iff] at hp ⊢
  rwa [State.blockTrace_of_other (State.settle_trace s d i reply) ho]

/-- Settles O50, by cases on the environment's move: the block's exchange continues the operation's own ones, a
Write Status carries the pair they brought, and no other move touches either. -/
theorem everyWriteCarriesThePairRead : Obligations.EveryWriteCarriesThePairRead := by
  unfold Obligations.EveryWriteCarriesThePairRead
  intro s t hp hs
  rcases step_cases hs with ⟨o, h, _, rfl⟩ | ⟨l, x, _, hr⟩ | ⟨_, _, _, _, rfl⟩ | ⟨_, _, _, rfl⟩ |
    ⟨x, i, _, hem, hx⟩ | ⟨_, rfl⟩ | ⟨_, rfl⟩ | ⟨_, _, _, _, i, _, hd, hx⟩
  · rcases s.advance.start_cases (startedOp o) h with ⟨_, he⟩ | ⟨_, he⟩
    · rw [he]
      exact hp.of_none_own rfl rfl
    · rw [he]
      exact hp
  · rcases takeReset_next hr with ⟨_, rfl⟩ | ⟨i, u, _, hem, rfl, _, rfl⟩
    · exact hp.of_none_own rfl rfl
    · exact hp.of_exchange (r := .abandoned) hem rfl (.inl rfl)
  · exact hp
  · exact hp
  · obtain ⟨r, htrace, hown⟩ := exec_ownExchanges hx (emits_not_hostop hem) rfl rfl
    exact hp.of_exchange hem htrace hown
  · exact hp
  · exact hp
  · obtain ⟨_, rfl⟩ := exec_of_other hx (decodeWire_ne_hostop hd) rfl
    exact PairReadCarried.of_settle_other (s := s.advance.withBus _) hp rfl _ _ _

/-! ### What a step does to ST, RES and MODE (O35, O36) -/

/-- Settles O35, by what a step does to ST, RES and MODE (`step_row`): of the rows of R151 only completion sets
RES = OK or a known mode. -/
theorem completionOnlyOnAnIdlePoll : Obligations.CompletionOnlyOnAnIdlePoll := by
  unfold Obligations.CompletionOnlyOnAnIdlePoll
  intro s t hs hnew
  rcases step_row hs with ⟨hr, hm, _⟩ | ⟨_, _, hr, hm, _⟩ | ⟨_, hr, hm, _⟩ | ⟨i, r, _, htrace, hrow⟩
  · simp [hr, hm] at hnew
  · simp [hr, hm] at hnew
  · simp [hr, hm] at hnew
  rcases hrow with ⟨_, hr, hm, _⟩ | ⟨_, _, hr, hm, _⟩ | ⟨hst, rfl, b, rfl, hb, hr, hm, ht⟩ |
    ⟨_, _, _, _, _, _, hr, hm, _⟩ | ⟨_, _, _, _, _, _, hr, hm, _⟩
  · simp [hr, hm] at hnew
  · simp [hr, hm] at hnew
  · exact ⟨hst, ht, hr, hm, b, htrace, hb⟩
  · simp [hr, hm] at hnew
  · simp [hr, hm] at hnew

/-- A row of R151 moves ST along the line, to IDLE, or keeps it in POLL. -/
theorem Row.st_successor {s t : State} {i : Instr} {r : Reply} (hrow : Row s t i r) :
    t.st = .idle ∨ (s.st, t.st) ∈ [(St.rd1, St.rd2), (.rd2, .wren), (.wren, .wrsr), (.wrsr, .poll)] ∨
      (s.st = .poll ∧ t.st = .poll) := by
  rcases hrow with ⟨_, _, _, h⟩ | ⟨_, _, _, _, hline⟩ | ⟨_, _, _, _, _, _, _, h⟩ |
    ⟨_, _, _, _, _, _, _, _, h⟩ | ⟨hst, _, _, _, _, _, _, _, h, _⟩
  · exact .inl h
  · exact .inr (.inl hline)
  · exact .inl h
  · exact .inl h
  · exact .inr (.inr ⟨hst, h⟩)

/-- Settles O36, by what a step does to ST (`step_row`): an answered exchange is a row of R151. -/
theorem stateSuccessors : Obligations.StateSuccessors := by
  unfold Obligations.StateSuccessors
  intro s t hs
  rcases step_row hs with ⟨_, _, hst, hidle⟩ | ⟨hst, ht, _, _, hne⟩ | ⟨ht, _, _, hne⟩ | ⟨i, r, hem, _, hrow⟩
  · exact ⟨.inl hst, fun x he hactive => absurd (hidle x he) hactive⟩
  · exact ⟨.inr (.inr (by simp [hst, ht])), fun x he => absurd he (hne x)⟩
  · exact ⟨.inr (.inl ht), fun x he => absurd he (hne x)⟩
  · rcases hrow.st_successor with ht | hline | ⟨hst, ht⟩
    · exact ⟨.inr (.inl ht), fun _ _ hactive hkept => absurd (hkept.symm.trans ht) hactive⟩
    · exact ⟨.inr (.inr (List.mem_cons_of_mem _ hline)), fun _ _ _ hkept => by
        rw [hkept] at hline
        cases hst : s.st <;> simp [hst] at hline⟩
    · exact ⟨.inl (ht.trans hst.symm), fun _ _ _ _ => hst⟩

/-! ### The end of the block's exchange within a step -/

/-- The step on a transport move up to the FSM's transition: the move is consumed, and the block's exchange of
command `c` is over with the draws `x` and the reply given. -/
def State.exchanged (s : State) (x : Draws) (c : Instr) (reply : Reply) : State :=
  (s.advance.withBus ⟨.block, s.h, x⟩).settle ((s.advance.withBus ⟨.block, s.h, x⟩).devAfter c) c reply

section Exchanged

variable (s : State) (x : Draws) (c : Instr) (reply : Reply)

@[simp] theorem State.exchanged_st : (s.exchanged x c reply).st = s.st := rfl
@[simp] theorem State.exchanged_op : (s.exchanged x c reply).op = s.op := rfl
@[simp] theorem State.exchanged_h : (s.exchanged x c reply).h = s.h := rfl
@[simp] theorem State.exchanged_s1 : (s.exchanged x c reply).s1 = s.s1 := rfl
@[simp] theorem State.exchanged_s2 : (s.exchanged x c reply).s2 = s.s2 := rfl
@[simp] theorem State.exchanged_pcnt : (s.exchanged x c reply).pcnt = s.pcnt := rfl
@[simp] theorem State.exchanged_par : (s.exchanged x c reply).par = s.par := rfl
@[simp] theorem State.exchanged_schedule : (s.exchanged x c reply).schedule = s.schedule.tail := rfl
@[simp] theorem State.exchanged_trace :
    (s.exchanged x c reply).trace = blockExchange s.h c reply :: s.trace := rfl
@[simp] theorem State.exchanged_outstanding : (s.exchanged x c reply).outstanding = false := by
  simp [State.exchanged]
@[simp] theorem State.exchanged_stored (l : Loc) : (s.exchanged x c reply).dev.stored l = s.dev.stored l :=
  State.devAfter_stored _ c l

/-- A read keeps WIP and PEND (R222, R223). -/
theorem State.exchanged_read_cycle (hread : c = .rdsr1 ∨ c = .rdsr2) :
    (s.exchanged x c reply).dev.wip = s.dev.wip ∧ (s.exchanged x c reply).dev.p1 = s.dev.p1 ∧
      (s.exchanged x c reply).dev.p2 = s.dev.p2 := by
  rcases hread with rfl | rfl <;> simp [State.exchanged, State.devAfter]

theorem State.exchanged_wren_wip : (s.exchanged x .wren reply).dev.wip = s.dev.wip := by
  simp [State.exchanged, State.devAfter]

end Exchanged

/-! ### A failed exchange (O32) -/

theorem exec_rdsr1_poll {s : State} (hm : s.bus.master = .block) (hst : s.st = .poll) :
    exec .rdsr1 s = .next ((s.settle s.devAfterRead .rdsr1 (readReply (gotStatus1 s))).onPoll (gotStatus1 s)) := by
  simp only [exec, execRdsr1, hm, hst, gotStatus1]

/-- From every state with an exchange, Fail aborts once the device has had its part; a write-type command must meet
no write cycle (R163, R243). -/
theorem exec_of_block_fail {s : State} {c : Instr} (hm : s.bus.master = .block) (hem : s.emits = some c)
    (hfail : s.bus.draws.answer = .fail) (hfree : s.dev.wip = true → c = .rdsr1 ∨ c = .rdsr2) :
    exec c s = .next ((s.settle (s.devAfter c) c .fail).abort .transportError) := by
  have hmeets (hwrite : c ≠ .rdsr1 ∧ c ≠ .rdsr2) : s.MeetsNoCycle := fun _ =>
    Bool.eq_false_of_not_eq_true fun hwip => (hfree hwip).elim hwrite.1 hwrite.2
  cases c with
  | rdsr1 =>
    rcases s.emits_rdsr1_iff.1 hem with hst | hst
    · rw [exec_rdsr1_rd1 hm hst, gotStatus1_of_fail hfail]
      rfl
    · rw [exec_rdsr1_poll hm hst, gotStatus1_of_fail hfail]
      rfl
  | rdsr2 =>
    rw [exec_rdsr2_rd2 hm (s.emits_rdsr2_iff.1 hem), gotStatus2_of_fail hfail]
    rfl
  | wren =>
    rw [exec_wren_wren hm (s.emits_wren_iff.1 hem) (hmeets (by simp)), hfail]
    rfl
  | wrsr a b =>
    rw [exec_wrsr_wrsr hm hem (hmeets (by simp)), hfail]
    rfl
  | enterQuad h => exact absurd rfl (emits_not_hostop hem h).1
  | exitQuad h => exact absurd rfl (emits_not_hostop hem h).2

/-- Settles O32: the step is the abort on the exchange that failed. -/
theorem failedExchangeEndsTheOperation : Obligations.FailedExchangeEndsTheOperation := by
  unfold Obligations.FailedExchangeEndsTheOperation
  intro s x c he hem hfail hfree
  refine ⟨(s.exchanged x c .fail).abort .transportError, ?_, rfl, rfl, rfl, rfl, rfl, rfl, rfl, rfl, rfl,
    by simp, by simp, by simp, ?_⟩
  · rw [step_eq_of_transport he hem]
    exact exec_of_block_fail (s := s.advance.withBus _) rfl hem hfail hfree
  · intro hwip
    obtain ⟨hw, hp1, hp2⟩ := s.exchanged_read_cycle x c .fail (hfree hwip)
    exact ⟨hw.trans hwip, hp1, hp2⟩

/-! ### Four exchanges in a row (O53) -/

/-- The byte that a read of the block answered Ok with the draws `x` brings: the device's answer, or from another link
the draw (R74). -/
def State.delivered (s : State) (x : Draws) (l : Loc) : Byte :=
  if s.h = s.par.link then s.dev.answer x l else x.byte

theorem State.delivered_of_link {s : State} (hlink : s.h = s.par.link) (x : Draws) (l : Loc) :
    s.delivered x l = s.dev.answer x l := if_pos hlink

theorem State.delivered_of_other_link {s : State} (hlink : s.h ≠ s.par.link) (x : Draws) (l : Loc) :
    s.delivered x l = x.byte := if_neg hlink

/-- Without a write cycle the device answers the stored pair, with bit 0 of Status1 cleared (R222, R223). -/
theorem Device.answer_of_not_wip {d : Device} (hwip : d.wip = false) (x : Draws) :
    d.answer x .sr1 = d.n1 &&& 0xFE ∧ d.answer x .sr2 = d.n2 := by
  simp [Device.answer, Device.status1, Device.status2, hwip, busyMask]

/-- A Status2 read is answered alike before and after a read of Status1. -/
theorem State.delivered_sr2_after_rdsr1 (s : State) (x y : Draws) (reply : Reply) :
    (s.exchanged x .rdsr1 reply).delivered y .sr2 = s.delivered y .sr2 := by
  simp [State.delivered, State.exchanged, State.devAfter, Device.answer, Device.status2]

section Answered

variable {s : State} {x : Draws} (he : s.nextEvent = .transport x) (hok : x.answer = .ok)
include he hok

theorem step_rd1_of_ok (hst : s.st = .rd1) : step s =
    .next ((s.exchanged x .rdsr1 (.ok [s.delivered x .sr1])).onRd1 (some (s.delivered x .sr1))) := by
  have hgot : gotStatus1 (s.advance.withBus ⟨.block, s.h, x⟩) = some (s.delivered x .sr1) := by
    simp [gotStatus1, State.received, State.attached_eq_true_iff, State.delivered, Device.answer, hok]
  rw [step_eq_of_transport he (s.emits_rdsr1_iff.2 (.inl hst)),
    exec_rdsr1_rd1 (s := s.advance.withBus ⟨.block, s.h, x⟩) rfl hst, hgot]
  rfl

theorem step_rd2_of_ok (hst : s.st = .rd2) : step s =
    .next ((s.exchanged x .rdsr2 (.ok [s.delivered x .sr2])).onRd2 (some (s.delivered x .sr2))) := by
  have hgot : gotStatus2 (s.advance.withBus ⟨.block, s.h, x⟩) = some (s.delivered x .sr2) := by
    simp [gotStatus2, State.received, State.attached_eq_true_iff, State.delivered, Device.answer, hok]
  rw [step_eq_of_transport he (s.emits_rdsr2_iff.2 hst),
    exec_rdsr2_rd2 (s := s.advance.withBus ⟨.block, s.h, x⟩) rfl hst, hgot]
  rfl

theorem step_wren_of_ok (hst : s.st = .wren) (hfree : s.h = s.par.link → s.dev.wip = false) :
    step s = .next ((s.exchanged x .wren (.ok [])).onWren .ok) := by
  rw [step_eq_of_transport he (s.emits_wren_iff.2 hst),
    exec_wren_wren (s := s.advance.withBus ⟨.block, s.h, x⟩) rfl hst hfree, State.withBus_bus, hok]
  rfl

theorem step_wrsr_of_ok (hst : s.st = .wrsr) (hfree : s.h = s.par.link → s.dev.wip = false) :
    step s = .next ((s.exchanged x (.wrsr s.s1 (w2 s.op s.s2)) (.ok [])).onWrsr .ok) := by
  have hem : s.emits = some (.wrsr s.s1 (w2 s.op s.s2)) := (s.emits_wrsr_iff _ _).2 ⟨hst, rfl, rfl⟩
  rw [step_eq_of_transport he hem,
    exec_wrsr_wrsr (s := s.advance.withBus ⟨.block, s.h, x⟩) rfl hem hfree, State.withBus_bus, hok]
  rfl

end Answered

theorem State.nextEvent_of_schedule {s : State} {e : Event} {rest : List Event} (h : s.schedule = e :: rest) :
    s.nextEvent = e := by
  simp [State.nextEvent, h]

/-- The two reads of an operation, answered in a row: S1 and S2 are what they brought, and the device's write cycle,
if any, goes on (R131, R132). -/
theorem run_two_reads {s : State} {x y : Draws} {rest : List Event} (hst : s.st = .rd1) (hx : x.answer = .ok)
    (hy : y.answer = .ok) (hsched : s.schedule = .transport x :: .transport y :: rest) :
    ∃ t, run 2 s = .next t ∧ t.st = .wren ∧ t.op = s.op ∧ t.h = s.h ∧ t.par = s.par ∧ t.dev.wip = s.dev.wip ∧
      t.schedule = rest ∧ t.s1 = s.delivered x .sr1 ∧ t.s2 = s.delivered y .sr2 ∧
      t.trace = blockExchange s.h .rdsr2 (.ok [t.s2]) :: blockExchange s.h .rdsr1 (.ok [t.s1]) :: s.trace := by
  have h1 := step_rd1_of_ok (State.nextEvent_of_schedule hsched) hx hst
  have h2 := step_rd2_of_ok
    (s := (s.exchanged x .rdsr1 (.ok [s.delivered x .sr1])).onRd1 (some (s.delivered x .sr1))) (x := y)
    (State.nextEvent_of_schedule (rest := rest) (by simp [hsched])) hy rfl
  refine ⟨_, (run_succ h1).trans (run_succ h2), rfl, rfl, rfl, rfl, ?_, by simp [hsched], rfl,
    s.delivered_sr2_after_rdsr1 x y (.ok [s.delivered x .sr1]), rfl⟩
  simp [State.onRead_dev, State.exchanged_read_cycle]

/-- The two steps of WRITE_STATUS, answered in a row without a write cycle before: Write Status carries S1 and W2
(R133, R134). -/
theorem run_write_status {s : State} {x y : Draws} {rest : List Event} (hst : s.st = .wren)
    (hfree : s.h = s.par.link → s.dev.wip = false) (hx : x.answer = .ok) (hy : y.answer = .ok)
    (hsched : s.schedule = .transport x :: .transport y :: rest) :
    ∃ t, run 2 s = .next t ∧ t.st = .poll ∧ t.schedule = rest ∧
      t.trace = blockExchange s.h (.wrsr s.s1 (w2 s.op s.s2)) (.ok []) ::
        blockExchange s.h .wren (.ok []) :: s.trace := by
  have h1 := step_wren_of_ok (State.nextEvent_of_schedule hsched) hx hst hfree
  have h2 := step_wrsr_of_ok (s := (s.exchanged x .wren (.ok [])).onWren .ok) (x := y)
    (State.nextEvent_of_schedule (rest := rest) (by simp [hsched])) hy rfl
    (by simpa [State.onWrite_dev, State.onWrite_par, State.exchanged_wren_wip] using hfree)
  exact ⟨_, (run_succ h1).trans (run_succ h2), rfl, by simp [hsched], rfl⟩

/-- Settles O53: the two reads (`run_two_reads`), then WRITE_STATUS with the pair they brought (`run_write_status`). -/
theorem writeCarriesThePairRead : Obligations.WriteCarriesThePairRead := by
  unfold Obligations.WriteCarriesThePairRead
  intro s x1 x2 x3 x4 rest hst hfree h1 h2 h3 h4 hsched
  obtain ⟨t, hreads, htst, hop, hh, hpar, hwip, htsched, hs1, hs2, htrace⟩ := run_two_reads hst h1 h2 hsched
  obtain ⟨u, hwrite, hust, husched, hutrace⟩ :=
    run_write_status htst (by rwa [hh, hpar, hwip]) h3 h4 htsched
  rw [hh, hop, htrace] at hutrace
  refine ⟨u, t.s1, t.s2, w2 s.op t.s2, (run_append 2 hreads).trans hwrite, hust, husched, hutrace,
    fun h => h ▸ rfl, fun h => h ▸ rfl, fun n hn => by rw [w2_getLsbD, if_neg hn], fun hlink => ?_, fun hlink => ?_⟩
  · rw [hs1, hs2, State.delivered_of_other_link hlink, State.delivered_of_other_link hlink]
    exact ⟨rfl, rfl⟩
  · rw [hs1, hs2, State.delivered_of_link hlink, State.delivered_of_link hlink]
    exact ⟨(Device.answer_of_not_wip (hfree hlink) x1).1, (Device.answer_of_not_wip (hfree hlink) x2).2⟩

end Sys2Proof.Machine

namespace Sys2Proof.Machine

/-! ### The POLL step, case by case (O16; R182, R274) -/

theorem State.onPoll_of_ready {b : Byte} (u : State) (hb : busyBit b = false) : u.onPoll (some b) = u.complete := by
  simp [State.onPoll, hb]

theorem State.onPoll_of_bound {b : Byte} {u : State} (hb : busyBit b = true)
    (hreach : boundReached u.par.pollBound u.pollsDone = true) : u.onPoll (some b) = u.abort .deviceNotReady := by
  simp [State.onPoll, hb, hreach]

theorem State.onPoll_of_busy {b : Byte} {u : State} (hb : busyBit b = true)
    (hreach : boundReached u.par.pollBound u.pollsDone = false) :
    u.onPoll (some b) = { u with pcnt := u.pollsDone } := by
  simp [State.onPoll, hb, hreach]

/-- Settles O16: the step is `State.onPoll` on what Read Status1 brings. -/
theorem pollStepFailsCompletesStopsOrRepeats : Obligations.PollStepFailsCompletesStopsOrRepeats := by
  unfold Obligations.PollStepFailsCompletesStopsOrRepeats
  rintro s u b d n hm hst rfl hb rfl rfl
  rw [exec_rdsr1_poll hm hst, State.settle_of_block hm, State.devAfterRead_eq]
  refine ⟨fun hfail => ?_, fun hok hready => ?_, fun hok hbusy hreach => ?_, fun hok hbusy hnot => ?_⟩
  · rw [gotStatus1_of_fail hfail]
    rfl
  · rw [gotStatus1_of_ok hok, ← hb, State.onPoll_of_ready _ hready]
    rfl
  · rw [gotStatus1_of_ok hok, ← hb, State.onPoll_of_bound hbusy]
    · rfl
    · exact decide_eq_true hreach
  · rw [gotStatus1_of_ok hok, ← hb, State.onPoll_of_busy hbusy]
    · rfl
    · exact decide_eq_false hnot

/-! ### Polls in a row that read busy (R182, R184) -/

theorem step_poll_of_ok {s : State} {x : Draws} (he : s.nextEvent = .transport x) (hok : x.answer = .ok)
    (hst : s.st = .poll) : step s =
    .next ((s.exchanged x .rdsr1 (.ok [s.delivered x .sr1])).onPoll (some (s.delivered x .sr1))) := by
  have hgot : gotStatus1 (s.advance.withBus ⟨.block, s.h, x⟩) = some (s.delivered x .sr1) := by
    simp [gotStatus1, State.received, State.attached_eq_true_iff, State.delivered, Device.answer, hok]
  rw [step_eq_of_transport he (emits_poll hst),
    exec_rdsr1_poll (s := s.advance.withBus ⟨.block, s.h, x⟩) rfl hst, hgot]
  rfl

/-- A poll answered with the draws `x` in state `s` reads busy. -/
def State.ReadsBusy (s : State) (x : Draws) : Prop := x.answer = .ok ∧ busyBit (s.delivered x .sr1) = true

/-- The two ways to read busy: a write cycle on the device's link, or bit 0 set in what another link brings
(R222, R74). -/
theorem State.readsBusy_iff (s : State) (x : Draws) : s.ReadsBusy x ↔ x.answer = .ok ∧
    ((s.h = s.par.link ∧ s.dev.wip = true) ∨ (s.h ≠ s.par.link ∧ x.byte.getLsbD 0 = true)) := by
  by_cases hlink : s.h = s.par.link
  · have hbit : busyBit (s.dev.answer x .sr1) = s.dev.wip := s.dev.status1_busyBit x
    simp [State.ReadsBusy, State.delivered_of_link hlink, hbit, hlink]
  · simp [State.ReadsBusy, State.delivered_of_other_link hlink, busyBit, hlink]

theorem State.readsBusy_of_never_ready {s : State} {polls : List Draws} (hok : ∀ x ∈ polls, x.answer = .ok)
    (hnever : (s.h = s.par.link ∧ s.dev.wip = true) ∨
      (s.h ≠ s.par.link ∧ ∀ x ∈ polls, x.byte.getLsbD 0 = true)) : ∀ x ∈ polls, s.ReadsBusy x := fun x hx =>
  (s.readsBusy_iff x).2 ⟨hok x hx, hnever.imp_right fun ⟨hlink, hbit⟩ => ⟨hlink, hbit x hx⟩⟩

/-- The byte of a busy poll: the draw with bit 0 set. -/
theorem State.ReadsBusy.delivered_eq {s : State} {x : Draws} (hbusy : s.ReadsBusy x) :
    s.delivered x .sr1 = x.byte ||| 0x01 := by
  obtain ⟨_, ⟨hlink, hwip⟩ | ⟨hlink, hbit⟩⟩ := (s.readsBusy_iff x).1 hbusy
  · simp [State.delivered_of_link hlink, Device.answer, Device.status1, hwip, busyMask]
  · rw [State.delivered_of_other_link hlink]
    ext i hi
    by_cases h0 : i = 0
    · subst h0
      simpa using hbit
    · simp [BitVec.getElem_one, h0]

/-- The block after a poll that reads busy and does not reach the bound. -/
def State.pollOn (s : State) (x : Draws) : State :=
  { s.exchanged x .rdsr1 (.ok [s.delivered x .sr1]) with pcnt := s.pollsDone }

/-- The block after such polls in a row. -/
def State.polledOn (s : State) : List Draws → State
  | [] => s
  | x :: polls => (s.pollOn x).polledOn polls

theorem step_poll_of_busy {s : State} {x : Draws} (he : s.nextEvent = .transport x) (hst : s.st = .poll)
    (hbusy : s.ReadsBusy x) (hreach : boundReached s.par.pollBound s.pollsDone = false) :
    step s = .next (s.pollOn x) := by
  rw [step_poll_of_ok he hbusy.1 hst, State.onPoll_of_busy hbusy.2]
  · rfl
  · exact hreach

theorem step_poll_of_bound {s : State} {x : Draws} (he : s.nextEvent = .transport x) (hst : s.st = .poll)
    (hbusy : s.ReadsBusy x) (hreach : boundReached s.par.pollBound s.pollsDone = true) :
    step s = .next ((s.exchanged x .rdsr1 (.ok [s.delivered x .sr1])).abort .deviceNotReady) := by
  rw [step_poll_of_ok he hbusy.1 hst, State.onPoll_of_bound hbusy.2]
  exact hreach

/-- A poll leaves the later ones to read busy as before: it keeps the handle, the link and WIP. -/
theorem State.pollOn_readsBusy_iff (s : State) (x y : Draws) : (s.pollOn x).ReadsBusy y ↔ s.ReadsBusy y := by
  have hwip : (s.pollOn x).dev.wip = s.dev.wip :=
    (s.exchanged_read_cycle x .rdsr1 (.ok [s.delivered x .sr1]) (.inl rfl)).1
  rw [State.readsBusy_iff, State.readsBusy_iff, hwip]
  rfl

section PolledOn

variable (s : State) (polls : List Draws)

theorem State.polledOn_kept : (s.polledOn polls).st = s.st ∧ (s.polledOn polls).h = s.h ∧
    (s.polledOn polls).par = s.par ∧ (s.polledOn polls).res = s.res ∧ (s.polledOn polls).mode = s.mode := by
  induction polls generalizing s with
  | nil => exact ⟨rfl, rfl, rfl, rfl, rfl⟩
  | cons x polls ih => exact ih (s.pollOn x)

theorem State.polledOn_schedule : (s.polledOn polls).schedule = s.schedule.drop polls.length := by
  induction polls generalizing s with
  | nil => rfl
  | cons x polls ih =>
    rw [State.polledOn, ih]
    simp [State.pollOn]

theorem State.polledOn_readsBusy_iff (y : Draws) : (s.polledOn polls).ReadsBusy y ↔ s.ReadsBusy y := by
  induction polls generalizing s with
  | nil => rfl
  | cons x polls ih => exact (ih (s.pollOn x)).trans (s.pollOn_readsBusy_iff x y)

variable {s polls}

/-- The polls are counted modulo 2^POLL_W (R38). -/
theorem State.polledOn_pcnt (hlt : s.pcnt < 2 ^ s.par.pollW) :
    (s.polledOn polls).pcnt = (s.pcnt + polls.length) % 2 ^ s.par.pollW := by
  induction polls generalizing s with
  | nil => exact (Nat.mod_eq_of_lt hlt).symm
  | cons x polls ih =>
    have hnext : (s.pollOn x).pcnt = (s.pcnt + 1) % 2 ^ s.par.pollW := rfl
    have hpar : (s.pollOn x).par = s.par := rfl
    rw [State.polledOn, ih (s.par.countBits_lt _), hnext, hpar, Nat.mod_add_mod, List.length_cons, Nat.add_assoc,
      Nat.add_comm 1]

theorem State.polledOn_trace (hbusy : ∀ x ∈ polls, s.ReadsBusy x) : (s.polledOn polls).trace =
    (polls.map fun x => blockExchange s.h .rdsr1 (.ok [x.byte ||| 0x01])).reverse ++ s.trace := by
  induction polls generalizing s with
  | nil => rfl
  | cons x polls ih =>
    have hx := (hbusy x List.mem_cons_self).delivered_eq
    rw [State.polledOn, ih fun y hy => (s.pollOn_readsBusy_iff x y).2 (hbusy y (List.mem_cons_of_mem x hy))]
    simp [State.pollOn, hx]

/-- Busy polls in a row that stay below the bound, if there is one, are all polled on. -/
theorem run_busy_polls {rest : List Event} (hst : s.st = .poll)
    (hbound : s.par.pollBound = 0 ∨ (s.pcnt + polls.length < s.par.pollBound ∧ s.par.pollBound < 2 ^ s.par.pollW))
    (hsched : s.schedule = polls.map .transport ++ rest) (hbusy : ∀ x ∈ polls, s.ReadsBusy x) :
    run polls.length s = .next (s.polledOn polls) := by
  induction polls generalizing s with
  | nil => rfl
  | cons x polls ih =>
    rw [List.length_cons] at hbound ⊢
    have hcount : s.par.pollBound ≠ 0 → s.pollsDone = s.pcnt + 1 := fun hne => State.pollsDone_eq (by omega)
    have hreach : boundReached s.par.pollBound s.pollsDone = false :=
      decide_eq_false fun ⟨hne, heq⟩ => by
        have := hcount hne
        omega
    have hstep := step_poll_of_busy (State.nextEvent_of_schedule hsched) hst (hbusy x List.mem_cons_self) hreach
    have hnext : (s.pollOn x).pcnt = s.pollsDone := rfl
    have hpar : (s.pollOn x).par = s.par := rfl
    rw [run_succ hstep]
    refine ih hst ?_ (by simp [State.pollOn, hsched])
      fun y hy => (s.pollOn_readsBusy_iff x y).2 (hbusy y (List.mem_cons_of_mem x hy))
    rw [hnext, hpar]
    omega

/-- The busy poll whose count reaches the bound ends WAIT_READY with DEVICE_NOT_READY. -/
theorem run_busy_polls_to_bound {x : Draws} {rest : List Event} (hst : s.st = .poll)
    (hcount : s.pcnt + polls.length + 1 = s.par.pollBound) (hwidth : s.par.pollBound < 2 ^ s.par.pollW)
    (hsched : s.schedule = (polls ++ [x]).map .transport ++ rest) (hbusy : ∀ y ∈ polls ++ [x], s.ReadsBusy y) :
    run (polls.length + 1) s =
      .next (((s.polledOn polls).exchanged x .rdsr1 (.ok [x.byte ||| 0x01])).abort .deviceNotReady) := by
  have hrun : run polls.length s = .next (s.polledOn polls) :=
    run_busy_polls (rest := .transport x :: rest) hst (.inr ⟨by omega, hwidth⟩) (by simp [hsched])
      fun y hy => hbusy y (List.mem_append_left [x] hy)
  obtain ⟨htst, _, hpar, _, _⟩ := s.polledOn_kept polls
  have hpcnt : (s.polledOn polls).pcnt = s.pcnt + polls.length := by
    rw [State.polledOn_pcnt (by omega), Nat.mod_eq_of_lt (by omega)]
  have hreach : boundReached (s.polledOn polls).par.pollBound (s.polledOn polls).pollsDone = true := by
    rw [State.pollsDone_eq (by rw [hpar]; omega), hpcnt, hpar]
    exact decide_eq_true ⟨by omega, hcount⟩
  have hlast : (s.polledOn polls).ReadsBusy x := (s.polledOn_readsBusy_iff polls x).2 (hbusy x (by simp))
  have he : (s.polledOn polls).nextEvent = .transport x :=
    State.nextEvent_of_schedule (rest := rest) (by simp [State.polledOn_schedule, hsched])
  rw [run_append 1 hrun, run_succ (step_poll_of_bound he (htst.trans hst) hlast hreach), hlast.delivered_eq, run_zero]

end PolledOn

/-- Settles O56: the polls before the last are polled on (`run_busy_polls`), and the last one reaches the bound
(`run_busy_polls_to_bound`). -/
theorem neverReadyDeviceGetsExactlyNPolls : Obligations.NeverReadyDeviceGetsExactlyNPolls := by
  unfold Obligations.NeverReadyDeviceGetsExactlyNPolls
  intro s polls rest hst hw hzero hne hlen hsched hok hnever
  have hbusy := State.readsBusy_of_never_ready hok hnever
  have hwidth := hw.pollBound_lt
  constructor
  · intro j hj
    have hjlen : (polls.take j).length = j := List.length_take_of_le hj.le
    have hrun := run_busy_polls (polls := polls.take j) (rest := (polls.drop j).map .transport ++ rest) hst
      (.inr ⟨by omega, hwidth⟩) (by rw [hsched, ← List.append_assoc, ← List.map_append, List.take_append_drop])
      fun x hx => hbusy x (List.mem_of_mem_take hx)
    rw [hjlen] at hrun
    refine ⟨_, hrun, (s.polledOn_kept _).1.trans hst, ?_⟩
    rw [State.polledOn_pcnt hw.pcnt_lt, hjlen, hzero, Nat.zero_add, Nat.mod_eq_of_lt (by omega)]
  · obtain rfl | ⟨busy, x, rfl⟩ := polls.eq_nil_or_concat'
    · exact absurd hlen.symm hne
    rw [List.length_append, List.length_singleton] at hlen ⊢
    have htrace := State.polledOn_trace (polls := busy) fun y hy => hbusy y (List.mem_append_left [x] hy)
    refine ⟨_, run_busy_polls_to_bound hst (by omega) hwidth hsched hbusy, rfl, rfl, rfl, ?_, ?_⟩
    · simp [State.polledOn_schedule, hsched]
    · simp [State.polledOn_kept, htrace]

/-! ### The end of WAIT_READY (O57; R186) -/

/-- In POLL every answer, Ok or Fail, is taken. -/
theorem step_poll_answered {s : State} {x : Draws} (he : s.nextEvent = .transport x) (hst : s.st = .poll) :
    ∃ t, step s = .next t ∧ t.schedule = s.schedule.tail := by
  rw [step_eq_of_transport he (emits_poll hst),
    exec_rdsr1_poll (s := s.advance.withBus ⟨.block, s.h, x⟩) rfl hst]
  exact ⟨_, rfl, by simp⟩

/-- An answer in POLL that does not end the operation is followed by a poll nearer the bound. -/
theorem BoundAhead.step_poll {s t : State} {x : Draws} (hb : BoundAhead s) (hst : s.st = .poll)
    (he : s.nextEvent = .transport x) (hs : step s = .next t) (ht : t.st ≠ .idle) :
    t.st = .poll ∧ BoundAhead t ∧ t.answersLeft < s.answersLeft := by
  obtain ⟨_, hpar, ⟨_, _, hno⟩ | ⟨_, hadv⟩⟩ := step_of_active hs (by simp [hst]) ht
  · exact absurd he (hno x)
  have hpoll : t.st = .poll := by
    rcases hadv with hline | ⟨hwrsr, _⟩ | ⟨_, h, _⟩
    · simp [hst] at hline
    · simp [hst] at hwrsr
    · exact h
  exact ⟨hpoll, hb.advances hpar hadv, hadv.answersLeft_lt hpar fun _ => hb⟩

/-- As many answers as are left under the bound end the operation. -/
theorem BoundAhead.run_polls_ends {s : State} {polls : List Draws} {rest : List Event} (hb : BoundAhead s)
    (hst : s.st = .poll) (hsched : s.schedule = polls.map .transport ++ rest)
    (hleft : s.answersLeft ≤ polls.length) : ∃ j t, j ≤ polls.length ∧ run j s = .next t ∧ t.st = .idle := by
  induction polls generalizing s with
  | nil =>
    have hpos := (hb.pollsDone_eq hst).1
    simp only [State.answersLeft, hst, List.length_nil] at hleft
    omega
  | cons x polls ih =>
    have he : s.nextEvent = .transport x := State.nextEvent_of_schedule hsched
    obtain ⟨t, hs, htsched⟩ := step_poll_answered he hst
    by_cases hidle : t.st = .idle
    · exact ⟨1, t, by simp, run_succ hs, hidle⟩
    · obtain ⟨hpoll, hahead, hless⟩ := hb.step_poll hst he hs hidle
      rw [List.length_cons] at hleft
      obtain ⟨j, u, hj, hrun, hu⟩ := ih hahead hpoll (by simp [htsched, hsched]) (by omega)
      exact ⟨j + 1, u, by simpa using hj, (run_succ hs).trans hrun, hu⟩

/-- Settles O57: with a bound every answer leaves one fewer (`BoundAhead.run_polls_ends`), and without one busy polls
are polled on (`run_busy_polls`). -/
theorem waitReadyTermination : Obligations.WaitReadyTermination := by
  unfold Obligations.WaitReadyTermination
  constructor
  · intro s polls rest hst hw hzero hne hlen hsched
    have hahead : BoundAhead s := ⟨hne, hw.pollBound_lt, fun _ _ => by omega⟩
    exact hahead.run_polls_ends hst hsched (by simp [State.answersLeft, hst, hlen])
  · intro s polls rest hst hw hzero hsched hok hnever
    obtain ⟨htst, _, _, hres, hmode⟩ := s.polledOn_kept polls
    have hbusy := State.readsBusy_of_never_ready hok hnever
    exact ⟨_, run_busy_polls hst (.inl hzero) hsched hbusy, htst.trans hst, hres, hmode,
      State.polledOn_pcnt hw.pcnt_lt⟩

end Sys2Proof.Machine

namespace Sys2Proof.Machine

/-! ### Refusals and the write cycle (R243) -/

/-- An instruction is refused only as a write-type command that reaches a device with a write cycle (R243). -/
theorem exec_refused {i : Instr} {s : State} {r : Refusal} (hx : exec i s = .refused r) :
    isWriteType i = true ∧ s.hitsBusy = true := by
  cases i with
  | rdsr1 =>
    simp only [exec, execRdsr1] at hx
    split at hx <;> cases hx
  | rdsr2 =>
    simp only [exec, execRdsr2] at hx
    split at hx <;> cases hx
  | wren =>
    refine ⟨rfl, by_contra fun hfree => ?_⟩
    simp only [exec, execWren, if_neg hfree] at hx
    split at hx <;> cases hx
  | wrsr a b =>
    refine ⟨rfl, by_contra fun hfree => ?_⟩
    simp only [exec, execWrsr, if_neg hfree] at hx
    split at hx
    · cases hx
    · split at hx <;> cases hx
  | enterQuad h => cases hx
  | exitQuad h => cases hx

theorem State.wip_of_hitsBusy {s : State} (h : s.hitsBusy = true) : s.dev.wip = true := by
  simp_all [State.hitsBusy]

/-- A reset is refused only when the exchange it abandons is a write-type command that reached a device with a write
cycle (R302, R243). -/
theorem takeReset_refused {s : State} {l : Leftover} {x : Draws} {r : Refusal} (hr : takeReset s l x = .refused r) :
    ∃ i, s.emits = some i ∧ isWriteType i = true ∧ s.dev.wip = true := by
  unfold takeReset at hr
  split at hr
  case h_1 i _ hem =>
    dsimp only at hr
    split at hr
    case isTrue hbusy =>
      obtain ⟨hwrite, hhits⟩ := Bool.and_eq_true_iff.1 hbusy
      have hwip := State.wip_of_hitsBusy hhits
      exact ⟨i, hem, hwrite, hwip⟩
    case isFalse => cases hr
  case h_2 => cases hr

theorem takeBound_refused {s : State} {n : Nat} {r : Refusal} (hr : takeBound s n = .refused r) :
    s.active = true ∨ s.begun = true := by
  unfold takeBound at hr
  split at hr
  case isTrue h => exact Bool.or_eq_true_iff.1 h
  case isFalse => cases hr

theorem step_eq_of_setBound {s : State} {n : Nat} (he : s.nextEvent = .setBound n) :
    step s = takeBound s.advance n := by
  simp [step, fetch, he]

/-- Everything a refused step can be, by the environment's move: POLL_BOUND supplied too late, the block's own
write-type command, answered or abandoned, at a device with a write cycle, or another user's exchange. -/
theorem step_refused_cases {s : State} {r : Refusal} (hs : step s = .refused r) :
    (∃ n, s.nextEvent = .setBound n ∧ (s.active = true ∨ s.begun = true)) ∨
      (∃ i, s.emits = some i ∧ isWriteType i = true ∧ s.dev.wip = true) ∨
      ∃ handle tx k x, s.nextEvent = .other handle tx k x := by
  cases he : s.nextEvent with
  | start op h => simp [step, fetch, he, decode, exec_decodeHost] at hs
  | reset l x =>
    rw [step_eq_of_reset he] at hs
    exact .inr (.inl (takeReset_refused (s := s.advance) hs))
  | setBound n =>
    rw [step_eq_of_setBound he] at hs
    exact .inl ⟨n, rfl, takeBound_refused (s := s.advance) hs⟩
  | transport x =>
    cases hem : s.emits with
    | none => simp [step_eq_of_transport_idle he (s.emits_eq_none_iff.1 hem)] at hs
    | some i =>
      rw [step_eq_of_transport he hem] at hs
      obtain ⟨hwrite, hhits⟩ := exec_refused hs
      have hwip := State.wip_of_hitsBusy hhits
      exact .inr (.inl ⟨i, rfl, hwrite, hwip⟩)
  | silence => simp [step_eq_of_silence he] at hs
  | commit => simp [step_eq_of_commit he] at hs
  | other h tx k x => exact .inr (.inr ⟨h, tx, k, x, rfl⟩)

/-- Only Write Status starts a write cycle (R225). -/
theorem State.devAfter_wip_kept_or_wrsr (s : State) (i : Instr) :
    (s.devAfter i).wip = s.dev.wip ∨ ∃ a b, i = .wrsr a b := by
  cases i with
  | wrsr a b => exact .inr ⟨a, b, rfl⟩
  | _ => simp [State.devAfter]

/-! ### A host that keeps its duties (O51) -/

theorem NotBusyBeforeWrite.of_wip_false {t : State} (hwip : t.dev.wip = false) : NotBusyBeforeWrite t := fun _ => hwip

theorem NotBusyBeforeWrite.of_idle {t : State} (hst : t.st = .idle) : NotBusyBeforeWrite t := by
  simp [NotBusyBeforeWrite, hst]

/-- The block sends its write-type commands before the write cycle they lead to (R133, R134). -/
theorem NotBusyBeforeWrite.wip_false_of_emits {s : State} {i : Instr} (hn : NotBusyBeforeWrite s)
    (hem : s.emits = some i) (hwrite : isWriteType i = true) : s.dev.wip = false := by
  cases i with
  | wren => exact hn (.inr (.inr (.inl (s.emits_wren_iff.1 hem))))
  | wrsr a b => exact hn (.inr (.inr (.inr ((s.emits_wrsr_iff a b).1 hem).1)))
  | _ => cases hwrite

/-- An operation that advances without reaching POLL was before its Write Status. -/
theorem Advances.before_write {s t : State} (hadv : Advances s t) (ht : t.st ≠ .poll) :
    s.st = .rd1 ∨ s.st = .rd2 ∨ s.st = .wren := by
  rcases hadv with hline | ⟨_, hpoll, _⟩ | ⟨_, hpoll, _⟩
  · simp only [List.mem_cons, Prod.mk.injEq, List.not_mem_nil, or_false] at hline
    exact hline.imp And.left (Or.imp And.left And.left)
  · exact absurd hpoll ht
  · exact absurd hpoll ht

/-- An answered exchange of the block that leads to a state before the Write Status is not the Write Status, which
leads to POLL or aborts; so it starts no write cycle. -/
theorem NotBusyBeforeWrite.of_exec {i : Instr} {s t : State} (hn : NotBusyBeforeWrite s) (hem : s.emits = some i)
    (hb : s.bus.master = .block) (hx : exec i s = .next t) : NotBusyBeforeWrite t := by
  intro ht
  have hne : t.st ≠ .idle ∧ t.st ≠ .poll := by rcases ht with h | h | h | h <;> simp [h]
  have hst := (exec_advances hx (emits_not_hostop hem) hb hne.1).before_write hne.2
  rw [(exec_dev hx).1]
  rcases s.devAfter_wip_kept_or_wrsr i with hwip | ⟨a, b, rfl⟩
  · exact hwip.trans (hn (hst.imp_right (Or.imp_right .inl)))
  · simp [((s.emits_wrsr_iff a b).1 hem).1] at hst

/-- Under the host's duties the device has no write cycle before an operation's Write Status: a start finds it
quiescent (R205, R312), and during the operation no other user writes to it (R210). -/
theorem NotBusyBeforeWrite.of_dutiful_step {s t : State} (hn : NotBusyBeforeWrite s)
    (hduty : dutiful s s.nextEvent = true) (hs : step s = .next t) : NotBusyBeforeWrite t := by
  rcases step_cases hs with ⟨o, h, he, rfl⟩ | ⟨l, x, he, _⟩ | ⟨_, _, _, _, rfl⟩ | ⟨_, _, _, rfl⟩ |
    ⟨x, i, _, hem, hx⟩ | ⟨_, rfl⟩ | ⟨he, _⟩ | ⟨_, _, _, _, i, he, hd, hx⟩
  · apply NotBusyBeforeWrite.of_wip_false
    simp only [he, dutiful, Device.quiescent, Bool.and_eq_true, Bool.not_eq_true'] at hduty
    simp [State.start_environment, hduty]
  · exact .of_idle (step_reset_st hs he)
  · exact hn
  · exact hn
  · exact NotBusyBeforeWrite.of_exec (s := s.advance.withBus _) hn hem rfl hx
  · exact hn
  · exact .of_wip_false (step_commit_wip hs he)
  · simp only [he, dutiful, Bool.not_eq_true', State.active_eq_false_iff] at hduty
    exact .of_idle ((exec_block_kept_of_other hx (decodeWire_ne_hostop hd) rfl).1.trans hduty)

/-- Under the host's duties POLL_BOUND is never supplied too late, and the block's own write-type command meets no
write cycle: what is refused is another user's exchange. -/
theorem NotBusyBeforeWrite.other_of_dutiful_refused {s : State} {r : Refusal} (hn : NotBusyBeforeWrite s)
    (hduty : dutiful s s.nextEvent = true) (hs : step s = .refused r) :
    ∃ handle tx k x, s.nextEvent = .other handle tx k x := by
  rcases step_refused_cases hs with ⟨n, he, hlate⟩ | ⟨i, hem, hwrite, hwip⟩ | hother
  · simp only [he, dutiful, Bool.and_eq_true, Bool.not_eq_true'] at hduty
    simp [hduty] at hlate
  · simp [hn.wip_false_of_emits hem hwrite] at hwip
  · exact hother

/-- Settles O51: what a step under the host's duties leads to, and what it can be when it is refused. -/
theorem dutifulHostNeverMeetsARefusal : Obligations.DutifulHostNeverMeetsARefusal := by
  unfold Obligations.DutifulHostNeverMeetsARefusal
  exact fun s hn hduty => ⟨fun t hs => hn.of_dutiful_step hduty hs,
    fun ⟨r, hs⟩ => hn.other_of_dutiful_refused hduty hs⟩

/-! ### The outstanding exchange (O48) -/

/-- A start leaves no state idle that was active (R201, R203). -/
theorem OutstandingOnlyActive.of_start {s : State} (ho : OutstandingOnlyActive s) (op : Op) (h : Handle) :
    OutstandingOnlyActive (s.start op h) := by
  rcases s.start_cases op h with ⟨_, he⟩ | ⟨_, he⟩ <;> rw [he]
  · exact fun _ => rfl
  · exact ho

theorem OutstandingOnlyActive.of_not_outstanding {t : State} (h : t.outstanding = false) : OutstandingOnlyActive t := by
  simp [OutstandingOnlyActive, h]

/-! The FSM's transitions on an answered exchange leave the outstanding bit alone. -/

theorem State.onRead_outstanding (u : State) (got : Option Byte) :
    (u.onRd1 got).outstanding = u.outstanding ∧ (u.onRd2 got).outstanding = u.outstanding ∧
      (u.onPoll got).outstanding = u.outstanding := by
  refine ⟨by cases got <;> rfl, by cases got <;> rfl, ?_⟩
  rcases u.onPoll_cases got with ⟨_, h⟩ | ⟨_, _, _, h⟩ | ⟨_, _, _, _, h⟩ | ⟨_, _, _, _, h⟩ <;> simp [h]

theorem State.onWrite_outstanding (u : State) (a : Answer) :
    (u.onWren a).outstanding = u.outstanding ∧ (u.onWrsr a).outstanding = u.outstanding := by
  cases a <;> exact ⟨rfl, rfl⟩

/-- An answered exchange of the block leaves nothing outstanding (R80). -/
theorem exec_outstanding_of_block {i : Instr} {s t : State} (hx : exec i s = .next t)
    (hi : ∀ h, i ≠ .enterQuad h ∧ i ≠ .exitQuad h) (hb : s.bus.master = .block) : t.outstanding = false := by
  cases i with
  | rdsr1 =>
    rcases execRdsr1_next hx with ⟨_, rfl⟩ | ⟨_, _, rfl⟩ | ⟨_, _, rfl⟩ <;> simp [State.onRead_outstanding, hb]
  | rdsr2 => rcases execRdsr2_next hx with ⟨_, rfl⟩ | ⟨_, _, rfl⟩ <;> simp [State.onRead_outstanding, hb]
  | wren => rcases execWren_next hx with ⟨_, ⟨_, rfl⟩ | ⟨_, _, rfl⟩⟩ <;> simp [State.onWrite_outstanding, hb]
  | wrsr a b => rcases execWrsr_next hx with ⟨_, ⟨_, rfl⟩ | ⟨_, _, rfl⟩⟩ <;> simp [State.onWrite_outstanding, hb]
  | enterQuad h => exact absurd rfl (hi h).1
  | exitQuad h => exact absurd rfl (hi h).2

theorem takeReset_outstanding {s t : State} {l : Leftover} {x : Draws} (hr : takeReset s l x = .next t) :
    t.outstanding = false := by
  rcases takeReset_next hr with ⟨_, rfl⟩ | ⟨_, _, _, _, _, _, rfl⟩ <;> rfl

/-- Settles O48, by cases on the environment's move: an answer or a reset leaves nothing outstanding, silence only what
an active block waits for, and no other move ends an operation. -/
theorem nothingOutstandingWhenIdle : Obligations.NothingOutstandingWhenIdle := by
  unfold Obligations.NothingOutstandingWhenIdle
  intro s t ho hs
  rcases step_cases hs with ⟨o, h, _, rfl⟩ | ⟨l, x, _, hr⟩ | ⟨_, _, _, _, rfl⟩ | ⟨_, _, _, rfl⟩ |
    ⟨x, i, _, hem, hx⟩ | ⟨_, rfl⟩ | ⟨_, rfl⟩ | ⟨_, _, _, _, i, _, hd, hx⟩
  · exact OutstandingOnlyActive.of_start (s := s.advance) ho _ h
  · exact .of_not_outstanding (takeReset_outstanding hr)
  · exact ho
  · exact ho
  · exact .of_not_outstanding (exec_outstanding_of_block hx (emits_not_hostop hem) rfl)
  · exact id
  · exact ho
  · obtain ⟨_, rfl⟩ := exec_of_other hx (decodeWire_ne_hostop hd) rfl
    exact fun hout => ho (by simpa using hout)

/-! ### The host operations (O3, O4, O5) -/

theorem exec_enterQuad (handle : Handle) (s : State) :
    exec (.enterQuad handle) s = .next (s.start .enterQuad handle) := rfl

theorem exec_exitQuad (handle : Handle) (s : State) :
    exec (.exitQuad handle) s = .next (s.start .exitQuad handle) := rfl

theorem State.start_of_idle {s : State} (hst : s.st = .idle) (op : Op) (handle : Handle) :
    s.start op handle = s.begin op handle := if_pos hst

theorem State.start_of_active {s : State} (hst : s.st ≠ .idle) (op : Op) (handle : Handle) :
    s.start op handle = s := if_neg hst

/-- Settles O3: both start, and the start from IDLE is `State.begin`. -/
theorem startBeginsOperation : Obligations.StartBeginsOperation := by
  unfold Obligations.StartBeginsOperation
  intro s handle hst
  rw [exec_enterQuad, exec_exitQuad, State.start_of_idle hst, State.start_of_idle hst]
  exact ⟨rfl, rfl⟩

/-- Settles O4: both start, and a start while active does nothing. -/
theorem startWhileActiveIsIgnored : Obligations.StartWhileActiveIsIgnored := by
  unfold Obligations.StartWhileActiveIsIgnored
  intro s handle hst
  rw [exec_enterQuad, exec_exitQuad, State.start_of_active hst, State.start_of_active hst]
  exact ⟨rfl, rfl⟩

/-- ENTER_QUAD and EXIT_QUAD are starts (R155, R156). -/
theorem eq_start_of_exec_hostop {s t : State} {handle : Handle}
    (hx : exec (.enterQuad handle) s = .next t ∨ exec (.exitQuad handle) s = .next t) :
    ∃ op, t = s.start op handle := by
  rw [exec_enterQuad, exec_exitQuad] at hx
  rcases hx with h | h <;> cases h
  · exact ⟨.enterQuad, rfl⟩
  · exact ⟨.exitQuad, rfl⟩

/-- Settles O5: a start from IDLE writes what `State.begin` does, and while active it writes nothing. -/
theorem hostOperationsFrame : Obligations.HostOperationsFrame := by
  unfold Obligations.HostOperationsFrame
  intro s t handle hx
  obtain ⟨op, rfl⟩ := eq_start_of_exec_hostop hx
  rcases s.start_cases op handle with ⟨hidle, he⟩ | ⟨_, he⟩
  · simp [he, hidle]
  · simp [he]

/-! ### Supplying POLL_BOUND (O39) -/

theorem takeBound_of_before_first {s : State} (hst : s.st = .idle) (hb : s.begun = false) (n : Nat) :
    takeBound s n = .next (s.setBound n) := by
  simp [takeBound, (s.active_eq_false_iff).2 hst, hb]

theorem takeBound_of_late {s : State} (hlate : s.st ≠ .idle ∨ s.begun = true) (n : Nat) :
    takeBound s n = .refused .pollBoundFixed := by
  have h : (s.active || s.begun) = true := by simpa [State.active] using hlate
  exact if_pos h

/-- Settles O39: the step on that move is `takeBound`. -/
theorem boundSuppliedBeforeTheFirstOperation : Obligations.BoundSuppliedBeforeTheFirstOperation := by
  unfold Obligations.BoundSuppliedBeforeTheFirstOperation
  intro s n he
  rw [step_eq_of_setBound he]
  refine ⟨fun hst hb => ?_, fun hlate => takeBound_of_late (s := s.advance) hlate n⟩
  rw [takeBound_of_before_first (s := s.advance) hst hb]
  rfl

end Sys2Proof.Machine

namespace Sys2Proof.Machine

/-! ### What a step does to the device, and the write cycle (O29, O30) -/

/-- A wire command leaves its own exchange in the trace (R19). -/
theorem exec_trace_exchange {i : Instr} {s t : State} (hx : exec i s = .next t)
    (hi : ∀ h, i ≠ .enterQuad h ∧ i ≠ .exitQuad h) : ∃ reply, t.trace =
      ⟨s.bus.master, s.bus.handle, codeTx (encode i), codeK (encode i), reply⟩ :: s.trace := by
  cases hm : s.bus.master with
  | other =>
    obtain ⟨reply, rfl⟩ := exec_of_other hx hi hm
    exact ⟨reply, by rw [State.settle_trace, hm]⟩
  | block =>
    rcases exec_row hx hi with ⟨ho, _⟩ | ⟨_, _, reply, htrace, _⟩
    · simp [hm] at ho
    · exact ⟨reply, htrace⟩

/-- A step leaves the device alone, commits, or ends one exchange, answered or abandoned by a reset, whose command
has its effect on the device. -/
theorem step_dev_cases {s t : State} (hs : step s = .next t) :
    t.dev = s.dev ∨ (s.nextEvent = .commit ∧ t.dev = s.dev.commit s.par) ∨
      ∃ (b : Bus) (i : Instr) (reply : Reply), t.dev = (s.advance.withBus b).devAfter i ∧
        t.trace = ⟨b.master, b.handle, codeTx (encode i), codeK (encode i), reply⟩ :: s.trace := by
  rcases step_cases hs with ⟨o, h, _, rfl⟩ | ⟨l, x, _, hr⟩ | ⟨_, _, _, _, rfl⟩ | ⟨_, _, _, rfl⟩ |
    ⟨x, i, _, hem, hx⟩ | ⟨_, rfl⟩ | ⟨he, rfl⟩ | ⟨_, _, _, _, i, _, hd, hx⟩
  · simp [State.start_environment]
  · rcases takeReset_next hr with ⟨_, rfl⟩ | ⟨i, u, _, _, rfl, _, rfl⟩
    · exact .inl rfl
    · exact .inr (.inr ⟨_, i, _, rfl, rfl⟩)
  · exact .inl rfl
  · exact .inl rfl
  · obtain ⟨reply, htrace⟩ := exec_trace_exchange hx (emits_not_hostop hem)
    exact .inr (.inr ⟨_, i, reply, (exec_dev hx).1, htrace⟩)
  · exact .inl rfl
  · exact .inr (.inl ⟨he, rfl⟩)
  · obtain ⟨reply, htrace⟩ := exec_trace_exchange hx (decodeWire_ne_hostop hd)
    exact .inr (.inr ⟨_, i, reply, (exec_dev hx).1, htrace⟩)

/-- A command keeps WIP, or it is a Write Status that the device accepts (R225). -/
theorem State.devAfter_wip_kept_or_accepted (s : State) (i : Instr) :
    (s.devAfter i).wip = s.dev.wip ∨ ∃ a b, i = .wrsr a b ∧ s.attached = true ∧ s.dev.wip = false ∧
      s.dev.wel = true ∧ s.devAfter i = s.dev.accept a b := by
  rcases s.devAfter_wip_kept_or_wrsr i with h | ⟨a, b, rfl⟩
  · exact .inl h
  rcases s.devAfterWrsr_cases a b with ⟨hatt, hwip, hwel, _, h⟩ | ⟨_, _, h⟩ | h
  · exact .inr ⟨a, b, rfl, hatt, hwip, hwel, h⟩
  · exact .inl (congrArg (·.wip) h)
  · exact .inl (congrArg (·.wip) h)

/-- A step keeps WIP, commits, or ends a Write Status that the device accepts. -/
theorem step_wip_cases {s t : State} (hs : step s = .next t) :
    t.dev.wip = s.dev.wip ∨ (s.nextEvent = .commit ∧ t.dev.wip = false) ∨
      (s.dev.wip = false ∧ s.dev.wel = true ∧ ∃ a b x, t.dev = s.dev.accept a b ∧ t.trace = x :: s.trace ∧
        x.handle = s.par.link ∧ x.tx = [0x01, a, b]) := by
  rcases step_dev_cases hs with hdev | ⟨he, hdev⟩ | ⟨bus, i, reply, hdev, htrace⟩
  · exact .inl (congrArg (·.wip) hdev)
  · exact .inr (.inl ⟨he, hdev ▸ Device.commit_wip _ _⟩)
  rw [hdev]
  rcases (s.advance.withBus bus).devAfter_wip_kept_or_accepted i with
    hkept | ⟨a, b, rfl, hatt, hwip, hwel, haccept⟩
  · exact .inl hkept
  · have hlink : bus.handle = s.par.link := (State.attached_eq_true_iff _).1 hatt
    exact .inr (.inr ⟨hwip, hwel, a, b, _, haccept, htrace, hlink, rfl⟩)

/-- Settles O29: only an accepted Write Status raises WIP, and only commit lowers it. -/
theorem writeCycleStartsAndEnds : Obligations.WriteCycleStartsAndEnds := by
  unfold Obligations.WriteCycleStartsAndEnds
  intro s t hs
  rcases step_wip_cases hs with hkept | ⟨he, hended⟩ | ⟨hwip, hwel, a, b, x, hdev, htrace, hlink, htx⟩
  · simp +contextual [hkept]
  · simp [he, hended]
  · rw [hdev]
    exact ⟨fun _ _ => ⟨hwel, rfl, x, htrace, hlink, htx⟩, fun hcycle => by simp [hwip] at hcycle⟩

/-- The bits of the mask are the written ones, the others the old ones (R230, R232). -/
theorem merge_getLsbD (mask old written : Byte) (n : Nat) :
    (merge mask old written).getLsbD n = if mask.getLsbD n then written.getLsbD n else old.getLsbD n := by
  cases hm : mask.getLsbD n with
  | true => simp [merge, hm]
  | false => simpa [merge, hm] using BitVec.lt_of_getLsbD

theorem legalMasks_eq_true_iff (wmask1 wmask2 : Byte) :
    legalMasks wmask1 wmask2 = true ↔ wmask1.getLsbD 0 = false ∧ wmask2.getLsbD 1 = true := by
  simp [legalMasks]

theorem Device.commit_of_wip {d : Device} (h : d.wip = true) (p : Params) : d.commit p =
    { d with n1 := merge p.wmask1 d.n1 d.p1, n2 := merge p.wmask2 d.n2 d.p2, wip := false } := if_pos h

/-- Settles O30: only commit writes the stored pair, and it merges under a mask without bit 0. -/
theorem storedBusyBitNeverChanges : Obligations.StoredBusyBitNeverChanges := by
  unfold Obligations.StoredBusyBitNeverChanges
  intro s t hlegal hs
  obtain ⟨_, _, _, _, _, hmask1, hmask2, _⟩ := configurationConstantWhileActive s t hs
  refine ⟨?_, by rwa [hmask1, hmask2]⟩
  by_cases hkept : t.dev.n1 = s.dev.n1
  · rw [hkept]
  · obtain ⟨he, hwip⟩ := storedPairChangesOnlyAtCommit s t .sr1 hs hkept
    rw [step_eq_of_commit he] at hs
    cases hs
    have hbit := ((legalMasks_eq_true_iff _ _).1 hlegal).1
    rw [State.commit_dev, State.advance_dev, Device.commit_of_wip hwip, merge_getLsbD, State.advance_par, hbit]
    rfl

/-! ### Failed exchanges of the block at the device (O31, O59) -/

/-- A step on a failed exchange of the block is the abort on it; a write-type command must meet no write cycle
(R163, R243). -/
theorem step_of_transport_fail {s : State} {x : Draws} {c : Instr} (he : s.nextEvent = .transport x)
    (hem : s.emits = some c) (hfail : x.answer = .fail) (hfree : s.dev.wip = true → c = .rdsr1 ∨ c = .rdsr2) :
    step s = .next ((s.exchanged x c .fail).abort .transportError) := by
  rw [step_eq_of_transport he hem]
  exact exec_of_block_fail (s := s.advance.withBus _) rfl hem hfail hfree

/-- A Write Status of the block is accepted, or changes no more than WEL (R225, R227, R236). -/
theorem State.exchanged_wrsr_dev (s : State) (x : Draws) (a b : Byte) (reply : Reply) :
    (s.exchanged x (.wrsr a b) reply).dev = s.dev.accept a b ∨
      ∃ wel, (s.exchanged x (.wrsr a b) reply).dev = { s.dev with wel := wel } := by
  rcases (s.advance.withBus ⟨.block, s.h, x⟩).devAfterWrsr_cases a b with ⟨_, _, _, _, h⟩ | ⟨_, _, h⟩ | h
  · exact .inl h
  · exact .inr ⟨_, h⟩
  · exact .inr ⟨s.dev.wel, h⟩

/-- Settles O31: the device accepted the Write Status, and commit merges it, or there is nothing to commit. -/
theorem failedWriteLeavesOldOrWrittenPair : Obligations.FailedWriteLeavesOldOrWrittenPair := by
  unfold Obligations.FailedWriteLeavesOldOrWrittenPair
  intro s x hst hwip he hfail
  have hem : s.emits = some (.wrsr s.s1 (w2 s.op s.s2)) := (s.emits_wrsr_iff _ _).2 ⟨hst, rfl, rfl⟩
  refine ⟨_, step_of_transport_fail he hem hfail (by simp [hwip]), ?_⟩
  rw [State.abort_dev, State.abort_par, State.exchanged_par]
  rcases s.exchanged_wrsr_dev x s.s1 (w2 s.op s.s2) .fail with h | ⟨wel, h⟩
  · rw [h, Device.commit_of_wip rfl]
    exact .inr ⟨rfl, rfl⟩
  · rw [h, Device.commit_of_not_wip (d := { s.dev with wel := wel }) hwip]
    exact .inl ⟨rfl, rfl⟩

/-- A read of a device without a pending write enable leaves it as it was (R228). -/
theorem State.exchanged_read_dev {s : State} {c : Instr} (hread : c = .rdsr1 ∨ c = .rdsr2) (hwel : s.dev.wel = false)
    (x : Draws) (reply : Reply) : (s.exchanged x c reply).dev = s.dev := by
  rcases hread with rfl | rfl <;> simp [State.exchanged, State.devAfter, State.devAfterRead_eq, hwel]

/-- A start presented to an idle block begins the operation that its select bit names (R201). -/
theorem step_start_of_idle {s : State} {op : BitVec 1} {handle : Handle} (he : s.nextEvent = .start op handle)
    (hst : s.st = .idle) : step s = .next (s.advance.begin (startedOp op) handle) := by
  rw [step_eq_exec (c := .hostop op handle) (t := s.advance) (by simp only [fetch, he]) rfl, exec_decodeHost,
    State.start_of_idle (s := s.advance) hst]

/-- Settles O59: the start, and the abort on the first read. -/
theorem absentDeviceAbortsAtOnce : Obligations.AbsentDeviceAbortsAtOnce := by
  unfold Obligations.AbsentDeviceAbortsAtOnce
  intro s op handle x rest hst hwel hfail hsched
  have hstart := step_start_of_idle (State.nextEvent_of_schedule hsched) hst
  have habort := step_of_transport_fail (s := s.advance.begin (startedOp op) handle) (c := .rdsr1)
    (State.nextEvent_of_schedule (rest := rest) (by simp [hsched])) rfl hfail fun _ => .inl rfl
  exact ⟨_, (run_succ hstart).trans (run_succ habort), rfl, rfl, rfl,
    State.exchanged_read_dev (s := s.advance.begin _ _) (.inl rfl) hwel x .fail, by simp [hsched], rfl⟩

/-! ### An operation end to end (O54, O55; R234, R240, R241) -/

/-- The two reads leave a device without a pending write enable as it was (R228). -/
theorem run_two_reads_dev {s t : State} {x y : Draws} {rest : List Event} (hst : s.st = .rd1) (hx : x.answer = .ok)
    (hy : y.answer = .ok) (hsched : s.schedule = .transport x :: .transport y :: rest) (hwel : s.dev.wel = false)
    (hrun : run 2 s = .next t) : t.dev = s.dev := by
  rw [run_succ (step_rd1_of_ok (State.nextEvent_of_schedule hsched) hx hst),
    run_succ (step_rd2_of_ok (State.nextEvent_of_schedule (rest := rest) (by simp [hsched])) hy rfl)] at hrun
  cases hrun
  have hfirst := State.exchanged_read_dev (c := .rdsr1) (.inl rfl) hwel x (.ok [s.delivered x .sr1])
  rw [(State.onRead_dev _ _).2.1, State.exchanged_read_dev (.inr rfl)]
  · exact hfirst
  · exact (congrArg (·.wel) hfirst).trans hwel

/-- A Write Enable answered Ok on the link of a device without a write cycle sets WEL (R224). -/
theorem State.exchanged_wren_dev {s : State} {x : Draws} (hlink : s.h = s.par.link) (hwip : s.dev.wip = false)
    (hok : x.answer = .ok) (reply : Reply) : (s.exchanged x .wren reply).dev = { s.dev with wel := true } := by
  simp [State.exchanged, State.devAfter, State.devAfterWren, State.attached, State.arrives, hlink, hwip, hok]

/-- A Write Status answered Ok on the link of an enabled device without a write cycle is accepted (R225). -/
theorem State.exchanged_wrsr_accepted {s : State} {x : Draws} (hlink : s.h = s.par.link) (hwip : s.dev.wip = false)
    (hwel : s.dev.wel = true) (hok : x.answer = .ok) (a b : Byte) (reply : Reply) :
    (s.exchanged x (.wrsr a b) reply).dev = s.dev.accept a b := by
  simp [State.exchanged, State.devAfter, State.devAfterWrsr, State.attached, State.arrives, hlink, hwip, hwel, hok]

/-- WRITE_STATUS on the link of a device without a write cycle starts one with S1 and W2, and polling with PCNT
cleared (R134, R225). -/
theorem run_write_status_accepted {s t : State} {x y : Draws} {rest : List Event} (hst : s.st = .wren)
    (hlink : s.h = s.par.link) (hwip : s.dev.wip = false) (hx : x.answer = .ok) (hy : y.answer = .ok)
    (hsched : s.schedule = .transport x :: .transport y :: rest) (hrun : run 2 s = .next t) :
    t.op = s.op ∧ t.h = s.h ∧ t.par = s.par ∧ t.pcnt = 0 ∧ t.dev = s.dev.accept s.s1 (w2 s.op s.s2) := by
  have henabled := State.exchanged_wren_dev hlink hwip hx (.ok [])
  have hfree : ((s.exchanged x .wren (.ok [])).onWren .ok).dev.wip = false :=
    (s.exchanged_wren_wip x (.ok [])).trans hwip
  rw [run_succ (step_wren_of_ok (State.nextEvent_of_schedule hsched) hx hst fun _ => hwip),
    run_succ (step_wrsr_of_ok (State.nextEvent_of_schedule (rest := rest) (by simp [hsched])) hy rfl fun _ => hfree)]
    at hrun
  cases hrun
  refine ⟨rfl, rfl, rfl, rfl, ?_⟩
  have haccept := State.exchanged_wrsr_accepted (s := (s.exchanged x .wren (.ok [])).onWren .ok) hlink hfree
    (by simp [State.onWrite_dev, henabled]) hy s.s1 (w2 s.op s.s2) (.ok [])
  exact haccept.trans (congrArg (·.accept s.s1 (w2 s.op s.s2)) henabled)

/-- Polls in a row keep OP, and a device without a pending write enable. -/
theorem State.polledOn_op_dev {s : State} (hwel : s.dev.wel = false) (polls : List Draws) :
    (s.polledOn polls).op = s.op ∧ (s.polledOn polls).dev = s.dev := by
  induction polls generalizing s with
  | nil => exact ⟨rfl, rfl⟩
  | cons x polls ih =>
    have hdev : (s.pollOn x).dev = s.dev := State.exchanged_read_dev (.inl rfl) hwel x (.ok [s.delivered x .sr1])
    obtain ⟨hop, hkept⟩ := ih (s := s.pollOn x) (hdev ▸ hwel)
    exact ⟨hop, hkept.trans hdev⟩

theorem Device.commit_wel (d : Device) (p : Params) : (d.commit p).wel = d.wel := by
  unfold Device.commit
  split <;> rfl

/-- The commit and the poll after it complete the operation (R182, R232). -/
theorem run_commit_poll {s : State} {x : Draws} {rest : List Event} (hst : s.st = .poll) (hlink : s.h = s.par.link)
    (hwel : s.dev.wel = false) (hx : x.answer = .ok) (hsched : s.schedule = .commit :: .transport x :: rest) :
    ∃ t, run 2 s = .next t ∧ t.st = .idle ∧ t.res = .ok ∧ t.mode = completedMode s.op ∧ t.outstanding = false ∧
      t.schedule = rest ∧ t.dev = s.dev.commit s.par ∧
      t.trace = blockExchange s.h .rdsr1 (.ok [(s.dev.commit s.par).n1 &&& 0xFE]) :: s.trace := by
  have hcommit := step_eq_of_commit (State.nextEvent_of_schedule hsched)
  have hbyte : s.advance.commit.delivered x .sr1 = (s.dev.commit s.par).n1 &&& 0xFE :=
    (State.delivered_of_link (s := s.advance.commit) hlink x .sr1).trans
      (Device.answer_of_not_wip (Device.commit_wip _ _) x).1
  have hready : busyBit (s.advance.commit.delivered x .sr1) = false := by simp [hbyte, busyBit]
  have hpoll := step_poll_of_ok (s := s.advance.commit)
    (State.nextEvent_of_schedule (rest := rest) (by simp [hsched])) hx hst
  rw [State.onPoll_of_ready _ hready, hbyte] at hpoll
  have hkept : s.advance.commit.dev.wel = false := (Device.commit_wel _ _).trans hwel
  exact ⟨_, (run_succ hcommit).trans (run_succ hpoll), rfl, rfl, rfl, by simp, by simp [hsched],
    State.exchanged_read_dev (.inl rfl) hkept x (.ok [(s.dev.commit s.par).n1 &&& 0xFE]), rfl⟩

theorem getLsbD_not_busyMask {n : Nat} (hn : n < 8) : (0xFE : Byte).getLsbD n = decide (n ≠ 0) := by
  have hmask : (0xFE : Byte) = ~~~busyMask := rfl
  rw [hmask, BitVec.getLsbD_not]
  simp [busyMask, hn]

theorem WidthsRespected.link_lt {s : State} (hw : WidthsRespected s) : s.par.link < 2 ^ s.par.handleW := hw.2.2.2.2.1

/-- Under legal masks commit of the pair that an operation writes keeps Status1 and leaves W2 in Status2
(R230, R232, R234). -/
theorem Device.commit_accept_operation {p : Params} (hlegal : legalMasks p.wmask1 p.wmask2 = true) (d : Device)
    (op : Op) : (d.accept (d.n1 &&& 0xFE) (w2 op d.n2)).commit p =
      { d.accept (d.n1 &&& 0xFE) (w2 op d.n2) with n2 := w2 op d.n2, wip := false } := by
  obtain ⟨hbusy, hquad⟩ := (legalMasks_eq_true_iff _ _).1 hlegal
  have hn1 : merge p.wmask1 d.n1 (d.n1 &&& 0xFE) = d.n1 := by
    refine BitVec.eq_of_getLsbD_eq fun n hn => ?_
    rw [merge_getLsbD]
    split
    case isTrue hwrite =>
      have hne : n ≠ 0 := by
        rintro rfl
        exact absurd (hwrite.symm.trans hbusy) (by decide)
      rw [BitVec.getLsbD_and, getLsbD_not_busyMask hn, decide_eq_true hne, Bool.and_true]
    case isFalse => rfl
  have hn2 : merge p.wmask2 d.n2 (w2 op d.n2) = w2 op d.n2 := by
    refine BitVec.eq_of_getLsbD_eq fun n _ => ?_
    rw [merge_getLsbD]
    split
    case isTrue => rfl
    case isFalse hkeep =>
      have hne : n ≠ 1 := fun h => hkeep (h ▸ hquad)
      rw [w2_getLsbD, if_neg hne]
  rw [Device.commit_of_wip rfl]
  simp only [Device.accept, hn1, hn2]

/-- From RD1 on the link of a quiescent device four exchanges answered Ok lead to POLL, with the pair of R104
latched (R131 to R134, R225). -/
theorem run_operation_to_poll {s : State} {x1 x2 x3 x4 : Draws} {rest : List Event} (hst : s.st = .rd1)
    (hlink : s.h = s.par.link) (hquiet : s.dev.quiescent = true)
    (hok : ∀ x ∈ [x1, x2, x3, x4], x.answer = .ok)
    (hsched : s.schedule = .transport x1 :: .transport x2 :: .transport x3 :: .transport x4 :: rest) :
    ∃ t, run 4 s = .next t ∧ t.st = .poll ∧ t.op = s.op ∧ t.h = s.h ∧ t.par = s.par ∧ t.pcnt = 0 ∧
      t.schedule = rest ∧ t.dev = s.dev.accept (s.dev.n1 &&& 0xFE) (w2 s.op s.dev.n2) ∧
      t.trace = blockExchange s.h (.wrsr (s.dev.n1 &&& 0xFE) (w2 s.op s.dev.n2)) (.ok []) ::
        blockExchange s.h .wren (.ok []) :: blockExchange s.h .rdsr2 (.ok [s.dev.n2]) ::
        blockExchange s.h .rdsr1 (.ok [s.dev.n1 &&& 0xFE]) :: s.trace := by
  obtain ⟨hwip, hwel⟩ : s.dev.wip = false ∧ s.dev.wel = false := by simpa [Device.quiescent] using hquiet
  simp only [List.forall_mem_cons] at hok
  obtain ⟨h1, h2, h3, h4, _⟩ := hok
  obtain ⟨t, hreads, htst, hop, hh, hpar, htwip, htsched, hs1, hs2, htrace⟩ := run_two_reads hst h1 h2 hsched
  have hdev := run_two_reads_dev hst h1 h2 hsched hwel hreads
  rw [State.delivered_of_link hlink, (Device.answer_of_not_wip hwip _).1] at hs1
  rw [State.delivered_of_link hlink, (Device.answer_of_not_wip hwip _).2] at hs2
  have htlink : t.h = t.par.link := by rw [hh, hpar, hlink]
  obtain ⟨u, hwrite, hust, husched, hutrace⟩ := run_write_status htst (fun _ => htwip.trans hwip) h3 h4 htsched
  obtain ⟨huop, huh, hupar, hupcnt, hudev⟩ :=
    run_write_status_accepted htst htlink (htwip.trans hwip) h3 h4 htsched hwrite
  rw [htrace, hs1, hs2, hop, hh] at hutrace
  rw [hs1, hs2, hop, hdev] at hudev
  exact ⟨u, (run_append 2 hreads).trans hwrite, hust, huop.trans hop, huh.trans hh, hupar.trans hpar, hupcnt,
    husched, hudev, hutrace⟩

/-- From the first poll on the link of a device in its write cycle: the busy polls, the commit and one poll after it
complete the operation, under no bound or one that allows the polls (R182, R184, R232). -/
theorem run_wait_ready {s : State} {busy : List Draws} {x : Draws} {rest : List Event} (hst : s.st = .poll)
    (hlink : s.h = s.par.link) (hwip : s.dev.wip = true) (hwel : s.dev.wel = false) (hzero : s.pcnt = 0)
    (hbound : s.par.pollBound = 0 ∨ busy.length + 1 ≤ s.par.pollBound) (hwidth : s.par.pollBound < 2 ^ s.par.pollW)
    (hbusy : ∀ y ∈ busy, y.answer = .ok) (hx : x.answer = .ok)
    (hsched : s.schedule = busy.map .transport ++ .commit :: .transport x :: rest) :
    ∃ t, run (busy.length + 2) s = .next t ∧ t.st = .idle ∧ t.res = .ok ∧ t.mode = completedMode s.op ∧
      t.outstanding = false ∧ t.schedule = rest ∧ t.dev = s.dev.commit s.par ∧
      t.trace = blockExchange s.h .rdsr1 (.ok [(s.dev.commit s.par).n1 &&& 0xFE]) ::
        ((busy.map fun y => blockExchange s.h .rdsr1 (.ok [y.byte ||| 0x01])).reverse ++ s.trace) := by
  have hreads : ∀ y ∈ busy, s.ReadsBusy y := s.readsBusy_of_never_ready hbusy (.inl ⟨hlink, hwip⟩)
  have hpolls : run busy.length s = .next (s.polledOn busy) :=
    run_busy_polls hst (hbound.imp_right fun h => ⟨by omega, hwidth⟩) hsched hreads
  obtain ⟨htst, hh, hpar, _, _⟩ := s.polledOn_kept busy
  obtain ⟨hop, hdev⟩ := State.polledOn_op_dev hwel busy
  obtain ⟨t, hlast, ht⟩ := run_commit_poll (s := s.polledOn busy) (x := x) (rest := rest) (htst.trans hst)
    (by rw [hh, hpar, hlink]) (by rw [hdev, hwel]) hx (by simp [State.polledOn_schedule, hsched])
  rw [hop, hdev, hpar, hh, State.polledOn_trace hreads] at ht
  exact ⟨t, (run_append 2 hpolls).trans hlast, ht⟩

/-- Either operation end to end, `w` the Status2 byte it writes (R240, R241). -/
theorem run_quad_operation {s : State} {op : BitVec 1} {x1 x2 x3 x4 x5 : Draws} {busy : List Draws}
    {rest : List Event} {a w : Byte} (ha : a = s.dev.n1 &&& 0xFE) (hw : w = w2 (startedOp op) s.dev.n2)
    (hst : s.st = .idle) (hwidths : WidthsRespected s) (hquiet : s.dev.quiescent = true)
    (hlegal : legalMasks s.par.wmask1 s.par.wmask2 = true)
    (hok : ∀ x ∈ x1 :: x2 :: x3 :: x4 :: x5 :: busy, x.answer = .ok)
    (hbound : s.par.pollBound = 0 ∨ busy.length + 1 ≤ s.par.pollBound)
    (hsched : s.schedule = .start op s.par.link :: .transport x1 :: .transport x2 :: .transport x3 ::
      .transport x4 :: (busy.map .transport ++ .commit :: .transport x5 :: rest)) :
    ∃ t, run (busy.length + 7) s = .next t ∧ t.st = .idle ∧ t.res = .ok ∧ t.mode = completedMode (startedOp op) ∧
      t.outstanding = false ∧ t.schedule = rest ∧
      t.dev.n1 = s.dev.n1 ∧ t.dev.n2 = w ∧ t.dev.wel = false ∧ t.dev.wip = false ∧
      t.trace = blockExchange s.par.link .rdsr1 (.ok [a]) ::
        ((busy.map fun x => blockExchange s.par.link .rdsr1 (.ok [x.byte ||| 0x01])).reverse ++
          blockExchange s.par.link (.wrsr a w) (.ok []) :: blockExchange s.par.link .wren (.ok []) ::
          blockExchange s.par.link .rdsr2 (.ok [s.dev.n2]) :: blockExchange s.par.link .rdsr1 (.ok [a]) ::
          s.trace) := by
  simp only [List.forall_mem_cons] at hok
  obtain ⟨h1, h2, h3, h4, h5, hpolls⟩ := hok
  have hstart := step_start_of_idle (State.nextEvent_of_schedule hsched) hst
  have hh : (s.advance.begin (startedOp op) s.par.link).h = s.par.link := Params.handleBits_of_lt hwidths.link_lt
  obtain ⟨t, hwrite, htst, htop, hth, htpar, htpcnt, htsched, htdev, httrace⟩ :=
    run_operation_to_poll (s := s.advance.begin (startedOp op) s.par.link) (x1 := x1) (x2 := x2) (x3 := x3)
      (x4 := x4) rfl hh hquiet (by simp [h1, h2, h3, h4]) (by simp [hsched]; rfl)
  rw [hh] at hth httrace
  simp only [State.begin_op, State.begin_dev, State.begin_par, State.begin_trace, State.advance_dev, State.advance_par,
    State.advance_trace, ← ha, ← hw] at htop htpar htdev httrace
  obtain ⟨u, hready, hust, hures, humode, huout, husched, hudev, hutrace⟩ :=
    run_wait_ready (x := x5) htst (by rw [hth, htpar]) (by rw [htdev]; rfl) (by rw [htdev]; rfl) htpcnt
      (by rwa [htpar]) (by rw [htpar]; exact hwidths.pollBound_lt) hpolls h5 htsched
  have hcommit : t.dev.commit t.par = { s.dev.accept a w with n2 := w, wip := false } := by
    rw [htdev, htpar, ha, hw]
    exact Device.commit_accept_operation hlegal s.dev (startedOp op)
  rw [hth, hcommit, httrace] at hutrace
  rw [hcommit] at hudev
  rw [htop] at humode
  refine ⟨u, ?_, hust, hures, humode, huout, husched, by rw [hudev]; rfl, by rw [hudev], by rw [hudev]; rfl,
    by rw [hudev], ?_⟩
  · calc run (busy.length + 7) s
        = run (busy.length + 6) (s.advance.begin (startedOp op) s.par.link) := run_succ hstart
      _ = run (4 + (busy.length + 2)) (s.advance.begin (startedOp op) s.par.link) := by rw [Nat.add_left_comm]
      _ = run (busy.length + 2) t := run_append _ hwrite
      _ = .next u := hready
  · rw [hutrace, ha]
    rfl

/-- Settles O54: `run_quad_operation` for the select bit 0. -/
theorem enterQuadEndToEnd : Obligations.EnterQuadEndToEnd := by
  unfold Obligations.EnterQuadEndToEnd
  intro s x1 x2 x3 x4 x5 busy rest a hst hwidths hquiet hlegal hok hbound hsched ha
  exact run_quad_operation ha rfl hst hwidths hquiet hlegal hok hbound hsched

/-- Settles O55: `run_quad_operation` for the select bit 1. -/
theorem exitQuadEndToEnd : Obligations.ExitQuadEndToEnd := by
  unfold Obligations.ExitQuadEndToEnd
  intro s x1 x2 x3 x4 x5 busy rest a hst hwidths hquiet hlegal hok hbound hsched ha
  exact run_quad_operation ha rfl hst hwidths hquiet hlegal hok hbound hsched

/-! ### Another user's commands at the device (O8, O18, O19, O20) -/

/-- Settles O8: the bytes are presented, and what does not decode is refused. -/
theorem unknownCommandIsRefused : Obligations.UnknownCommandIsRefused := by
  unfold Obligations.UnknownCommandIsRefused
  intro s handle tx k x why he hd
  simp only [step, fetch, he, hd]

section OtherUser

variable {s : State} (hm : s.bus.master = .other)
include hm

/-- The end of another user's exchange (R19): the block's is as outstanding as before. -/
theorem State.settle_of_other (d : Device) (i : Instr) (reply : Reply) : s.settle d i reply =
    { s with dev := d, trace := ⟨.other, s.bus.handle, codeTx (encode i), codeK (encode i), reply⟩ :: s.trace } := by
  simp [State.settle, hm]

theorem exec_rdsr1_other :
    exec .rdsr1 s = .next (s.settle s.devAfterRead .rdsr1 (readReply (gotStatus1 s))) := by
  simp only [exec, execRdsr1, hm, gotStatus1]

theorem exec_rdsr2_other :
    exec .rdsr2 s = .next (s.settle s.devAfterRead .rdsr2 (readReply (gotStatus2 s))) := by
  simp only [exec, execRdsr2, hm, gotStatus2]

theorem exec_wren_other (hfree : s.MeetsNoCycle) :
    exec .wren s = .next (s.settle s.devAfterWren .wren (sendReply s.bus.draws.answer)) := by
  simp [exec, execWren, hm, hfree.hitsBusy_eq]

theorem exec_wrsr_other (hfree : s.MeetsNoCycle) (a b : Byte) :
    exec (.wrsr a b) s = .next (s.settle (s.devAfterWrsr a b) (.wrsr a b) (sendReply s.bus.draws.answer)) := by
  simp [exec, execWrsr, hm, hfree.hitsBusy_eq]

end OtherUser

/-- Settles O18: the exchange ends with the device's answer, and the device is as after a read. -/
theorem deviceAnswersReads : Obligations.DeviceAnswersReads := by
  unfold Obligations.DeviceAnswersReads
  rintro s d hm hlink rfl
  rw [exec_rdsr1_other hm, exec_rdsr2_other hm, State.settle_of_other hm, State.settle_of_other hm,
    State.devAfterRead_eq]
  simp only [hlink, true_and]
  constructor
  · intro hok
    rw [gotStatus1_of_ok hok, gotStatus2_of_ok hok, if_pos hlink, if_pos hlink]
    exact ⟨rfl, rfl⟩
  · intro hfail
    rw [gotStatus1_of_fail hfail, gotStatus2_of_fail hfail]
    exact ⟨rfl, rfl⟩

/-- Settles O19: the device takes a Write Enable that arrives. -/
theorem deviceTakesWriteEnable : Obligations.DeviceTakesWriteEnable := by
  unfold Obligations.DeviceTakesWriteEnable
  intro s hm hlink hwip
  have hfree : s.MeetsNoCycle := fun _ => hwip
  rw [exec_wren_other hm hfree, State.settle_of_other hm, hfree.devAfterWren_eq]
  constructor
  · intro hok
    simp only [hok, State.arrives_of_ok hok, hlink, and_self, if_true]
    rfl
  · intro hfail
    rw [hfail, State.arrives_of_fail hfail]
    cases harrived : s.bus.draws.arrived with
    | true =>
      rw [if_pos ⟨hlink, rfl⟩, Bool.or_true]
      rfl
    | false =>
      rw [if_neg (by simp), Bool.or_false]
      rfl

/-- Settles O20: an enabled device accepts a Write Status that arrives, and one that is not enabled ignores it. -/
theorem deviceAcceptsEnabledWrite : Obligations.DeviceAcceptsEnabledWrite := by
  unfold Obligations.DeviceAcceptsEnabledWrite
  intro s a b hm hlink hwip
  have hfree : s.MeetsNoCycle := fun _ => hwip
  rw [exec_wrsr_other hm hfree, State.settle_of_other hm, hfree.devAfterWrsr_eq]
  refine ⟨fun hwel hok => ?_, fun hwel hfail => ?_, fun hwel hfail => ?_⟩
  · rw [if_pos ⟨hlink, hwel⟩, if_pos (State.arrives_of_ok hok), hok]
    rfl
  · rw [if_pos ⟨hlink, hwel⟩, State.arrives_of_fail hfail, hfail]
    rfl
  · rw [if_neg (by simp [hwel]), hfail]
    rfl

/-! ### A Write Status that is not enabled (O21; R227) -/

/-- Without WEL a Write Status has no effect on a device (R227). -/
theorem State.devAfterWrsr_of_not_wel {s : State} (hwel : s.dev.wel = false) (a b : Byte) :
    s.devAfterWrsr a b = s.dev := by
  simp [State.devAfterWrsr, hwel]

/-- A poll answered Ok on the link of a device without a write cycle completes, and leaves a device without a pending
write enable as it was (R182). -/
theorem exec_poll_completes {u : State} (hm : u.bus.master = .block) (hst : u.st = .poll)
    (hlink : u.bus.handle = u.par.link) (hwip : u.dev.wip = false) (hwel : u.dev.wel = false)
    (hok : u.bus.draws.answer = .ok) :
    ∃ v, exec .rdsr1 u = .next v ∧ v.st = .idle ∧ v.res = .ok ∧ v.dev = u.dev := by
  have hgot := gotStatus1_of_ok hok
  have hready := gotStatus1_ready ((State.attached_eq_true_iff u).2 hlink) hwip hgot
  rw [exec_rdsr1_poll hm hst, hgot, State.onPoll_of_ready _ hready]
  exact ⟨_, rfl, rfl, rfl, by simp [State.devAfterRead_eq, hwel]⟩

/-- Settles O21: both exchanges end with the device as it was, and the block's next poll completes. -/
theorem unenabledWriteIsIgnored : Obligations.UnenabledWriteIsIgnored := by
  unfold Obligations.UnenabledWriteIsIgnored
  intro s a b hlink hwip hwel hok
  have hfree : s.MeetsNoCycle := fun _ => hwip
  have hblock (hm : s.bus.master = .block) (hem : s.emits = some (.wrsr a b)) :
      exec (.wrsr a b) s = .next { s with
        pcnt := 0, st := .poll, outstanding := false,
        trace := ⟨.block, s.bus.handle, [0x01, a, b], 0, .ok []⟩ :: s.trace } := by
    rw [exec_wrsr_wrsr hm hem hfree, State.settle_of_block hm, State.devAfterWrsr_of_not_wel hwel, hok]
    rfl
  refine ⟨fun hm => ?_, hblock, fun hm hem t u x hx ht hu => ?_⟩
  · rw [exec_wrsr_other hm hfree, State.settle_of_other hm, State.devAfterWrsr_of_not_wel hwel, hok]
    rfl
  · rw [hblock hm hem] at ht
    cases ht
    subst hu
    exact exec_poll_completes rfl rfl hlink hwip hwel hx

/-! ### A busy device (O22; R243) -/

/-- A write-type command that another user sends, or the block's state emits, is refused when it reaches a device with
a write cycle. -/
theorem exec_of_hitsBusy {s : State} {i : Instr} (hwrite : isWriteType i = true)
    (hsent : s.bus.master = .other ∨ s.emits = some i) (hbusy : s.hitsBusy = true) :
    exec i s = .refused .deviceBusy := by
  cases hm : s.bus.master with
  | other =>
    cases i with
    | wren => simp only [exec, execWren, hm, if_pos hbusy]
    | wrsr a b => simp only [exec, execWrsr, hm, if_pos hbusy]
    | _ => cases hwrite
  | block =>
    have hem : s.emits = some i := hsent.resolve_left (by simp [hm])
    cases i with
    | wren => simp only [exec, execWren, hm, s.emits_wren_iff.1 hem, if_pos hbusy]
    | wrsr a b => simp only [exec, execWrsr, hm, hem, if_true, if_pos hbusy]
    | _ => cases hwrite

/-- An instruction that another user sends, or the block's state emits, answers a next state unless it is a write-type
command that reaches a device with a write cycle. -/
theorem exec_of_not_hitsBusy {s : State} {i : Instr} (hi : ∀ h, i ≠ .enterQuad h ∧ i ≠ .exitQuad h)
    (hsent : s.bus.master = .other ∨ s.emits = some i) (hfree : s.hitsBusy = false) : ∃ t, exec i s = .next t := by
  cases hx : exec i s with
  | next t => exact ⟨t, rfl⟩
  | fault f =>
    obtain ⟨hm, hem⟩ := (exec_eq_fault_iff hi s f).1 hx
    exact absurd hsent (by simp [hm, hem])
  | refused r => exact absurd ((exec_refused hx).2.symm.trans hfree) (by simp)

/-- A busy device takes no write-type command (R243). -/
theorem State.devAfter_of_wip {s : State} {i : Instr} (hwrite : isWriteType i = true) (hwip : s.dev.wip = true) :
    s.devAfter i = s.dev := by
  cases i with
  | wren => simp [State.devAfter, State.devAfterWren, hwip]
  | wrsr a b => simp [State.devAfter, State.devAfterWrsr, hwip]
  | _ => cases hwrite

/-- A failed write-type command of the block aborts (R133, R134), whatever the device. -/
theorem exec_write_aborts {s t : State} {i : Instr} (hwrite : isWriteType i = true) (hx : exec i s = .next t)
    (hm : s.bus.master = .block) (hfail : s.bus.draws.answer = .fail) :
    t.st = .idle ∧ t.res = .transportError ∧ t.mode = .unknown := by
  cases i with
  | wren =>
    rcases execWren_next hx with ⟨_, ⟨ho, _⟩ | ⟨_, _, rfl⟩⟩
    · simp [hm] at ho
    · rw [hfail]
      exact ⟨rfl, rfl, rfl⟩
  | wrsr a b =>
    rcases execWrsr_next hx with ⟨_, ⟨ho, _⟩ | ⟨_, _, rfl⟩⟩
    · simp [hm] at ho
    · rw [hfail]
      exact ⟨rfl, rfl, rfl⟩
  | _ => cases hwrite

/-- Settles O22: the command hits the write cycle exactly when it is answered Ok or arrived. -/
theorem busyDeviceRefusesWrites : Obligations.BusyDeviceRefusesWrites := by
  unfold Obligations.BusyDeviceRefusesWrites
  intro s i hlink hwip hi hsent
  have hwrite : isWriteType i = true := by rcases hi with rfl | ⟨a, b, rfl⟩ <;> rfl
  have hhits : s.hitsBusy = s.arrives := by simp [State.hitsBusy, State.attached, hlink, hwip]
  constructor
  · intro harrives
    exact exec_of_hitsBusy hwrite hsent (by simpa [hhits, State.arrives] using harrives)
  · intro hfail hmissed
    obtain ⟨t, hx⟩ := exec_of_not_hitsBusy (by rcases hi with rfl | ⟨a, b, rfl⟩ <;> simp) hsent
      (by rw [hhits, State.arrives_of_fail hfail, hmissed])
    exact ⟨t, hx, by rw [(exec_dev hx).1, State.devAfter_of_wip hwrite hwip],
      fun hm => exec_write_aborts hwrite hx hm hfail⟩

/-! ### Commit (O27; R230, R232) -/

/-- Settles O27: the step on that move is commit, which merges the pending pair or finds no write cycle. -/
theorem commitMergesThePendingPair : Obligations.CommitMergesThePendingPair := by
  unfold Obligations.CommitMergesThePendingPair
  intro s he
  rw [step_eq_of_commit he, State.commit]
  refine ⟨fun hwip => ?_, fun hwip => ?_⟩
  · rw [Device.commit_of_wip (d := s.advance.dev) hwip]
    rfl
  · rw [Device.commit_of_not_wip (d := s.advance.dev) hwip]
    rfl

end Sys2Proof.Machine

namespace Sys2Proof.Machine

/-! ### The two failure kinds (O33, O34; R261 to R263) -/

/-- A step is the answer to an exchange of the block, which its reply puts in a row of R151, or it raises no failure
and adds no answered exchange of the block to the trace. -/
theorem step_answered_or_no_failure {s t : State} (hs : step s = .next t) :
    (∃ i r, t.trace = blockExchange s.h i r :: s.trace ∧ Row s t i r) ∨
      ((t.res = s.res ∨ t.res = .none) ∧
        ∀ x, t.trace = x :: s.trace → x.master = .block → x.reply = .abandoned) := by
  rcases step_cases hs with ⟨o, h, _, rfl⟩ | ⟨l, x, _, hr⟩ | ⟨_, _, _, _, rfl⟩ | ⟨_, _, _, rfl⟩ |
    ⟨x, i, _, hem, hx⟩ | ⟨_, rfl⟩ | ⟨_, rfl⟩ | ⟨_, _, _, _, i, _, hd, hx⟩
  · rcases s.advance.start_cases (startedOp o) h with ⟨_, he⟩ | ⟨_, he⟩ <;> simp [he]
  · rcases takeReset_next hr with ⟨_, rfl⟩ | ⟨_, _, _, _, rfl, _, rfl⟩ <;> simp +contextual [eq_comm]
  · simp
  · simp
  · rcases exec_row hx (emits_not_hostop hem) with ⟨ho, _⟩ | ⟨_, _, r, htrace, hrow⟩
    · simp at ho
    · exact .inl ⟨i, r, htrace, hrow⟩
  · simp
  · simp
  · obtain ⟨_, rfl⟩ := exec_of_other hx (decodeWire_ne_hostop hd) rfl
    right
    simp +contextual [eq_comm]

/-- Of the rows of R151 only the failed exchange raises TransportError (R262). -/
theorem Row.res_eq_transportError_iff {s t : State} {i : Instr} {r : Reply} (hrow : Row s t i r)
    (hnew : s.res ≠ .transportError) : t.res = .transportError ↔ r = .fail := by
  rcases hrow with ⟨hr, hres, _⟩ | ⟨hr, _, hres, _⟩ | ⟨_, _, _, rfl, _, hres, _⟩ |
    ⟨_, _, _, rfl, _, _, hres, _⟩ | ⟨_, _, _, rfl, _, _, hres, _⟩
  · simp [hr, hres]
  · simp [hr, hres, hnew]
  · simp [hres]
  · simp [hres]
  · simp [hres, hnew]

/-- Settles O33: an answered exchange of the block raises TransportError exactly when it failed, no other step does,
and Fail aborts from every state with an exchange. -/
theorem transportErrorIffExchangeFailed : Obligations.TransportErrorIffExchangeFailed := by
  unfold Obligations.TransportErrorIffExchangeFailed
  refine ⟨fun s t hs hnew => ?_, fun s x hst he hfail hwip => ?_⟩
  · rcases step_answered_or_no_failure hs with ⟨i, r, htrace, hrow⟩ | ⟨hres, hnone⟩
    · rw [hrow.res_eq_transportError_iff hnew, htrace]
      simp [blockExchange]
    · have hkept : t.res ≠ .transportError := by rcases hres with h | h <;> simp [h, hnew]
      refine iff_of_false hkept fun ⟨x, htrace, hm, hfail⟩ => ?_
      simp [hnone x htrace hm] at hfail
  · obtain ⟨c, hem⟩ := Option.ne_none_iff_exists'.1 (mt s.emits_eq_none_iff.1 hst)
    exact ⟨_, step_of_transport_fail he hem hfail (by simp [hwip]), rfl⟩

theorem boundReached_eq_true_iff (bound n : Nat) : boundReached bound n = true ↔ bound ≠ 0 ∧ n = bound :=
  decide_eq_true_iff

/-- Settles O34: of all that a step does to RES (`step_row`) only the busy poll that reaches the bound reports
DeviceNotReady. -/
theorem deviceNotReadyOnlyAtTheBound : Obligations.DeviceNotReadyOnlyAtTheBound := by
  unfold Obligations.DeviceNotReadyOnlyAtTheBound
  intro s t hs hnew hreported
  rcases step_row hs with ⟨hr, _⟩ | ⟨_, _, hr, _⟩ | ⟨_, hr, _⟩ | ⟨i, r, _, htrace, hrow⟩
  · exact absurd (hr.symm.trans hreported) hnew
  · simp [hr] at hreported
  · simp [hr] at hreported
  rcases hrow with ⟨_, hr, _⟩ | ⟨_, _, hr, _⟩ | ⟨_, _, _, _, _, hr, _⟩ |
    ⟨hst, rfl, b, rfl, hbusy, hreach, _, hm, ht⟩ | ⟨_, _, _, _, _, _, hr, _⟩
  · simp [hr] at hreported
  · exact absurd (hr.symm.trans hreported) hnew
  · simp [hr] at hreported
  · obtain ⟨hbound, hcount⟩ := (boundReached_eq_true_iff _ _).1 hreach
    exact ⟨hst, ht, hm, hbound, hcount, b, htrace, hbusy⟩
  · exact absurd (hr.symm.trans hreported) hnew

end Sys2Proof.Machine

namespace Sys2Proof.Machine

/-! ### Right after reset (O1, O44; R55, R301) -/

/-- Settles O1: R55's values of ST, RES and MODE, and their codes. -/
theorem resetLeavesIdleNoneUnknown : Obligations.ResetLeavesIdleNoneUnknown := by
  unfold Obligations.ResetLeavesIdleNoneUnknown
  exact ⟨rfl, rfl, rfl, rfl, rfl⟩

/-- A state without a trace that is in IDLE keeps the pairing: nothing was written. -/
theorem EnablePaired.of_no_trace {s : State} (htrace : s.trace = []) (hst : s.st = .idle) : EnablePaired s := by
  simp [EnablePaired, State.blockTrace, htrace, hst, writesEnabled]

/-- A state without a trace that is in IDLE carries no pair: nothing was read or written. -/
theorem PairReadCarried.of_no_trace {s : State} (htrace : s.trace = []) (hst : s.st = .idle) : PairReadCarried s := by
  rw [pairReadCarried_iff, State.ownExchanges_of_idle hst, State.blockTrace, htrace]
  exact ⟨trivial, List.nil_prefix⟩

/-- An idle block that reports nothing is consistent: no operation is in progress and none has completed. -/
theorem ResultsConsistent.of_none_unknown {s : State} (hst : s.st = .idle) (hres : s.res = .none)
    (hmode : s.mode = .unknown) : ResultsConsistent s := by
  simp [ResultsConsistent, State.active, hst, hres, hmode]

theorem PollCountBelowBound.of_idle {s : State} (hst : s.st = .idle) : PollCountBelowBound s := by
  simp [PollCountBelowBound, hst]

/-- Zero fits every width, and R9's default of POLL_W is not 0. -/
theorem widthsRespected_reset : WidthsRespected State.reset := by
  simp [WidthsRespected, State.reset]

/-- Settles O44: after reset the block is idle and reports nothing, nothing is outstanding, the trace is empty, and
the rest are the model's values. -/
theorem invariantsHoldAtReset : Obligations.InvariantsHoldAtReset := by
  unfold Obligations.InvariantsHoldAtReset
  exact ⟨.of_no_trace rfl rfl, .of_none_unknown rfl rfl rfl, .of_idle rfl, .of_not_outstanding rfl, .of_idle rfl,
    widthsRespected_reset, .of_no_trace rfl rfl, rfl⟩

/-! ### Reset with no exchange outstanding (O37; R300, R303) -/

theorem takeReset_of_none_outstanding {s : State} (hnone : s.outstanding = false ∨ s.st = .idle) (l : Leftover)
    (x : Draws) : takeReset s l x = .next (s.resetBlock l) := by
  unfold takeReset
  split
  case h_1 i ho hem => exact absurd hnone (by simp [ho, st_ne_idle_of_emits hem])
  case h_2 => rfl

/-- Settles O37: the step is the block's part of the reset alone. -/
theorem resetClearsBlockKeepsDevice : Obligations.ResetClearsBlockKeepsDevice := by
  unfold Obligations.ResetClearsBlockKeepsDevice
  intro s l x he hnone
  rw [step_eq_of_reset he, takeReset_of_none_outstanding (s := s.advance) hnone]
  rfl

/-! ### Reset with an exchange outstanding (O38; R300, R302) -/

/-- The port on which a reset abandons the block's exchange: for the device the exchange is a failed one (R302). -/
def State.abandoning (s : State) (x : Draws) : State :=
  s.advance.withBus ⟨.block, s.h, { x with answer := .fail }⟩

section Abandoning

variable {s : State} {l : Leftover} {x : Draws} {c : Instr}

/-- What a reset does to an outstanding exchange: a write-type command that hits a write cycle is refused, and any
other is over for the device and recorded as abandoned (R302, R243). -/
theorem step_reset_of_outstanding (he : s.nextEvent = .reset l x) (ho : s.outstanding = true)
    (hem : s.emits = some c) : step s =
      if isWriteType c && (s.abandoning x).hitsBusy then .refused .deviceBusy
      else .next (((s.abandoning x).settle ((s.abandoning x).devAfter c) c .abandoned).resetBlock l) := by
  have ho' : s.advance.outstanding = true := ho
  have hem' : s.advance.emits = some c := hem
  rw [step_eq_of_reset he]
  simp only [takeReset, ho', hem']
  rfl

/-- What a state of the block emits is a read or a write-type command (R109, R243). -/
theorem isWriteType_of_emits (hem : s.emits = some c) (hne1 : c ≠ .rdsr1) (hne2 : c ≠ .rdsr2) :
    isWriteType c = true := by
  cases c with
  | rdsr1 => exact absurd rfl hne1
  | rdsr2 => exact absurd rfl hne2
  | wren => rfl
  | wrsr a b => rfl
  | enterQuad h => exact absurd rfl (emits_not_hostop hem h).1
  | exitQuad h => exact absurd rfl (emits_not_hostop hem h).2

/-- An abandoned write-type command hits a write cycle on the device's own link exactly when a draw says that it
arrived (R236, R243). -/
theorem State.abandoning_hitsBusy (hlink : s.h = s.par.link) (hwip : s.dev.wip = true) :
    (s.abandoning x).hitsBusy = x.arrived := by
  simp [State.abandoning, State.hitsBusy, State.attached, State.arrives, hlink, hwip]

/-- A failed read leaves WEL a draw if it was 1 (R228, R236). -/
theorem State.abandoning_devAfterRead : (s.abandoning x).devAfterRead =
    if s.h = s.par.link then (if s.dev.wel then { s.dev with wel := x.wel } else s.dev) else s.dev := by
  rw [State.devAfterRead_eq, ite_and]
  rfl

/-- A failed Write Enable that meets no write cycle sets WEL if it arrived (R236). -/
theorem State.abandoning_devAfterWren (hfree : (s.abandoning x).MeetsNoCycle) : (s.abandoning x).devAfterWren =
    if s.h = s.par.link then (if x.arrived then { s.dev with wel := true } else s.dev) else s.dev := by
  rw [hfree.devAfterWren_eq, State.arrives_of_fail rfl, ite_and]
  rfl

/-- A failed Write Status that meets no write cycle latches the pair if it was enabled and arrived (R236). -/
theorem State.abandoning_devAfterWrsr (hfree : (s.abandoning x).MeetsNoCycle) (a b : Byte) :
    (s.abandoning x).devAfterWrsr a b =
      if s.h = s.par.link then
        (if s.dev.wel then
          (if x.arrived then { s.dev with p1 := a, p2 := b, wip := true, wel := false }
            else { s.dev with wel := x.wel })
        else s.dev)
      else s.dev := by
  rw [hfree.devAfterWrsr_eq, State.arrives_of_fail rfl, ite_and]
  rfl

end Abandoning

/-- Settles O38: the exchange is a failed one at the device, command by command, unless a write-type command hits a
write cycle. -/
theorem resetAbandonsTheOutstandingExchange : Obligations.ResetAbandonsTheOutstandingExchange := by
  unfold Obligations.ResetAbandonsTheOutstandingExchange
  intro s l x c d he ho hem hd
  rw [step_reset_of_outstanding he ho hem]
  refine ⟨fun hfree => ?_, fun hlink hwip hne1 hne2 => ?_⟩
  · have hmeets (hwrite : isWriteType c = true) : (s.abandoning x).MeetsNoCycle := fun hlink => by
      rcases hfree with hother | hwip | rfl | rfl
      · exact absurd hlink hother
      · exact hwip
      · cases hwrite
      · cases hwrite
    have hdev : d = (s.abandoning x).devAfter c := by
      rw [hd]
      cases c with
      | rdsr1 => exact State.abandoning_devAfterRead.symm
      | rdsr2 => exact State.abandoning_devAfterRead.symm
      | wren => exact (State.abandoning_devAfterWren (hmeets rfl)).symm
      | wrsr a b => exact (State.abandoning_devAfterWrsr (hmeets rfl) a b).symm
      | enterQuad h => exact absurd rfl (emits_not_hostop hem h).1
      | exitQuad h => exact absurd rfl (emits_not_hostop hem h).2
    have htaken : ¬(isWriteType c && (s.abandoning x).hitsBusy) = true := fun hbusy => by
      obtain ⟨hwrite, hhits⟩ := Bool.and_eq_true_iff.1 hbusy
      simp [(hmeets hwrite).hitsBusy_eq] at hhits
    rw [if_neg htaken, hdev]
    rfl
  · have hwrite := isWriteType_of_emits hem hne1 hne2
    rw [hwrite, State.abandoning_hitsBusy hlink hwip, State.devAfter_of_wip (s := s.abandoning x) hwrite hwip]
    exact ⟨fun harrived => if_pos (by simp [harrived]), fun hmissed => if_neg (by simp [hmissed])⟩

end Sys2Proof.Machine
